-- ==== Sys2Proof/Word.lean ====
section
/-!
DEFINITION. The two widths of the block (00_scope.md R8: "A byte is 8 bits; a word is 32 bits").
-/
namespace Sys2Proof

/-- A byte: 8 bits (R8). Its `+` is the rule's `+8`, addition modulo 256 (R9). -/
abbrev Byte := BitVec 8

/-- A word: 32 bits (R8). Registers, the command word and times are words; times wrap at 2^32 (R9). -/
abbrev Word := BitVec 32

end Sys2Proof
end

