-- ==== Sys2Proof/Config.lean ====
section
/-!
DEFINITION. What is fixed when a machine is built (00_scope.md R6), the moves the agents can make (R13),
and the one free value of the model: the order of the agents' moves and the data they bring (R251, 93 I5, I6).
-/
namespace Sys2Proof

/-- `OVERRUN_POLICY` (R6, R167): which byte is lost when one arrives while the receive buffer is full. -/
inductive OverrunPolicy where
  | dropNew
  | dropOld
  deriving DecidableEq, Repr

/-- The parameters of 00_scope.md R6, each at the document's default. `ACK_BYTE` is derived
(`Config.ackByte`), the register width and `TIME_WIDTH` are fixed at 32 (`Word`), and `BAUD` is informative:
no rule reads it. Machines with other legal values are the same `State` with another `cfg`.
DESIGN CHOICE (log 5): the parameters are a constant field of State; safe: no step changes them. -/
structure Config where
  /-- `ADDR_BYTE` -/
  addrByte : Byte := 0x33
  /-- `SYNC_BYTE` -/
  syncByte : Byte := 0x55
  /-- `DEST` -/
  dest : Byte := 0x6A
  /-- `SRC` -/
  src : Byte := 0xF1
  /-- `RESP_DEST`, by default `DEST` -/
  respDest : Byte := dest
  /-- `RESP_SRC`, by default `SRC` -/
  respSrc : Byte := src
  /-- `REQ_LEN_BASE` -/
  reqLenBase : Byte := 0x66
  /-- `RESP_LEN_BASE` -/
  respLenBase : Byte := 0x42
  /-- `T_BIT_MS` -/
  tBit : Nat := 200
  /-- `T_IDLE_MS` -/
  tIdle : Nat := 2600
  /-- `T_W4_MS` -/
  tW4 : Nat := 40
  /-- `T_W5_MS` -/
  tW5 : Nat := 40
  /-- `T_BYTE_MS` -/
  tByte : Nat := 10
  /-- `T_REQ_MS` -/
  tReq : Nat := 65
  /-- `T_KA_MS` -/
  tKa : Nat := 5000
  /-- `PIDBUF_SIZE` -/
  pidBufSize : Nat := 8
  /-- `RESBUF_SIZE` -/
  resBufSize : Nat := 8
  /-- `RX_TIMEOUT_MS`; 0 means no timeout -/
  rxTimeout : Nat := 0
  /-- `VERIFY_RX_CHECKSUM` -/
  verifyRxChecksum : Bool := false
  /-- `ACK_ECHO` -/
  ackEcho : Bool := false
  /-- `OVERRUN_POLICY` -/
  overrunPolicy : OverrunPolicy := .dropNew
  deriving DecidableEq, Repr

/-- Every parameter at its default: the "literal original behavior" (R6). -/
def Config.default : Config := {}

/-- `ACK_BYTE = ~ADDR_BYTE`, "derived, not free" (R6). -/
def Config.ackByte (c : Config) : Byte := ~~~c.addrByte

/-- One move of one agent (R13). The host's offset is a word so that an offset the bus cannot carry is
representable, and refused (R61, R65). -/
inductive Event where
  /-- Engine: one atomic segment of the running command (R122). -/
  | engine
  /-- Time base: one `tick_ms` pulse (R255). -/
  | tick
  /-- Serializer: emit the byte of the transmit buffer (R165). -/
  | serialize
  /-- Line: deliver one byte on `rx_byte` (R166). -/
  | deliver (x : Byte)
  /-- Host: `MemRead(addr, 4)` (R66). -/
  | hostRead (addr : Word)
  /-- Host: `MemWrite(addr, 4, v)` (R67). -/
  | hostWrite (addr : Word) (v : Word)
  /-- Reset: `rst` is asserted (R270). -/
  | rstAssert
  /-- Reset: `rst` is released (R270). -/
  | rstRelease
  deriving DecidableEq, Repr, Inhabited

/-- FREE VALUE (log 2): the n-th move that nothing in State has fixed. The spec leaves the interleaving, the
bytes the Line delivers and the Serializer's moment open (R13, R251, 93_implementation_defined.md I5, I6). -/
opaque Config.freeEvent : Nat → Event

end Sys2Proof
end

