-- ==== Sys2Proof/Syntax.lean ====
section
/-!
DEFINITION. The commands of 30_encoding.md R93, one constructor per row of spec/opcode_table.json.
A command word has no operand field (R91): every operand is read from a register.
-/
namespace Sys2Proof

/-- The seven commands (R93). -/
inductive Instr where
  /-- 0x00 NOP (R125) -/
  | nop
  /-- 0x01 WAKEUP (R150) -/
  | wakeup
  /-- 0x02 TRANSMIT (R161) -/
  | transmit
  /-- 0x03 RECEIVE (R162) -/
  | receive
  /-- 0x04 CONNECT (R182) -/
  | connect
  /-- 0x05 SEND_CMD (R210) -/
  | sendCmd
  /-- 0x06 DISCONNECT (R192) -/
  | disconnect
  deriving DecidableEq, Repr

end Sys2Proof
end

