-- ==== Sys2Proof/WellFormed.lean ====
section
/-!
DEFINITION. The checks the spec makes on the form of things: the command word (R90, R92, R93), a host access
(R61, R63, R65) and the parameters (R6). A command has no operand, so every `Instr` is well formed.
-/
namespace Sys2Proof

/-- The highest opcode of R93. -/
def Instr.lastOpcode : Nat := 0x06

/-- A term of `Instr` has no field the spec restricts (R91: "The command word has no immediate field"). -/
def Instr.wellFormed : Instr → Bool
  | .nop | .wakeup | .transmit | .receive | .connect | .sendCmd | .disconnect => true

/-- A legal command word: `RSVD` = 0 and `OPCODE` in 0x00 to 0x06 (R90, R92, R93). -/
def wordWellFormed (w : Word) : Bool :=
  w.toNat / 256 == 0 && w.toNat % 256 ≤ Instr.lastOpcode

/-- A host access inside the interface contract: aligned and at an offset of 6 bits (R61, R63, R65). -/
def accessWellFormed (addr : Word) : Bool :=
  addr.toNat < 0x40 && addr.toNat % 4 == 0

/-- A move the model admits: every move but a host access outside the contract (R65, 93 I1, I2). -/
def Event.wellFormed : Event → Bool
  | .hostRead a => accessWellFormed a
  | .hostWrite a _ => accessWellFormed a
  | .engine | .tick | .serialize | .deliver _ | .rstAssert | .rstRelease => true

/-- The column "Legal values" of R6. The waits that reach `wait_ms` are also below 2^32 (R127). -/
def Config.legal (c : Config) : Bool :=
  1 ≤ c.tBit && c.tBit < 2 ^ 32 && 2600 ≤ c.tIdle && c.tIdle < 2 ^ 32 && c.tW4 < 2 ^ 32 && c.tW5 < 2 ^ 32
    && c.tByte < 2 ^ 32 && 65 ≤ c.tReq && 1 ≤ c.tKa && 2 ≤ c.pidBufSize && c.pidBufSize ≤ 8
    && 4 ≤ c.resBufSize && c.resBufSize ≤ 8 && c.rxTimeout < 2 ^ 32

end Sys2Proof
end

