-- ==== Sys2Proof/Decode.lean ====
section
/-!
DEFINITION. The decoder of 30_encoding.md R94 (total: every word is a command or illegal), the encoder, and
the host's entry `decodeTableWord`.
-/
namespace Sys2Proof

/-- Why a command word is illegal (R92, R93). -/
inductive IllegalWord where
  /-- `RSVD` /= 0, "whatever its `OPCODE`" (R92) -/
  | reservedBits
  /-- `RSVD` = 0 and `OPCODE` 0x07 to 0xFF (R93) -/
  | unknownOpcode
  deriving DecidableEq, Repr

/-- What a command word selects (R94). -/
inductive Decoded where
  | command (i : Instr)
  | illegal (why : IllegalWord)
  deriving DecidableEq, Repr

/-- `OPCODE`, bits 7:0 (R90). -/
def opcodeField (w : Word) : Byte := w.extractLsb' 0 8

/-- `RSVD`, bits 31:8 (R90). -/
def rsvdField (w : Word) : BitVec 24 := w.extractLsb' 8 24

/-- The opcode map of R93. -/
def commandOfOpcode (op : Nat) : Option Instr :=
  match op with
  | 0x00 => some .nop
  | 0x01 => some .wakeup
  | 0x02 => some .transmit
  | 0x03 => some .receive
  | 0x04 => some .connect
  | 0x05 => some .sendCmd
  | 0x06 => some .disconnect
  | _ => none

/-- `decode(w)` of R94: `RSVD` is looked at first. -/
def decode (w : Word) : Decoded :=
  if rsvdField w = 0 then
    match commandOfOpcode (opcodeField w).toNat with
    | some i => .command i
    | none => .illegal .unknownOpcode
  else .illegal .reservedBits

/-- The `OPCODE` of a command (R93). -/
def opcodeOf : Instr → Byte
  | .nop => 0x00
  | .wakeup => 0x01
  | .transmit => 0x02
  | .receive => 0x03
  | .connect => 0x04
  | .sendCmd => 0x05
  | .disconnect => 0x06

/-- The command word of a command: `RSVD` = 0 above its `OPCODE` (R90). -/
def encode (i : Instr) : Word := 0#24 ++ opcodeOf i

/-- The command the decoder reads from the instruction whose bits are `w`, numbered as the opcode table
numbers them. The table's rows have 32 bits, the whole command word (R90: one length); bits at and above
`nbits` are 0. -/
def decodeTableWord (nbits w : Nat) : Option Instr :=
  match decode (BitVec.ofNat 32 (w % 2 ^ nbits)) with
  | .command i => some i
  | .illegal _ => none

end Sys2Proof
end

