-- ==== Sys2Proof/Machine/State.lean ====
section
/-!
DEFINITION. Everything the spec gives the machine (10_state.md), as plain data, and its value after reset (R53).
-/
namespace Sys2Proof.Machine

/-- `STATUS.SESSION` (R25, R180). -/
inductive Session where
  | disconnected
  | initializing
  | ready
  | faulted
  deriving DecidableEq, Repr

/-- `STATUS.LINE_MODE` (R25, R160): what drives `kline_tx`. -/
inductive LineMode where
  /-- `drive()` -/
  | gpio
  /-- the Serializer at 10.4 kbit/s -/
  | uart
  deriving DecidableEq, Repr

/-- The error kinds of R240. "Codes 0x0D to 0xFF are never written." -/
inductive ErrorKind where
  | none
  | handshakeFailure
  | echoMismatch
  | frameLengthMismatch
  | addressMismatch
  | commandEchoMismatch
  | sessionExpired
  | notReady
  | stateError
  | illegalCommand
  | badLength
  | timeout
  | checksumMismatch
  deriving DecidableEq, Repr

/-- An eight-byte buffer, byte 0 the first on the wire (R40, R41, R64). -/
structure Buf8 where
  b0 : Byte
  b1 : Byte
  b2 : Byte
  b3 : Byte
  b4 : Byte
  b5 : Byte
  b6 : Byte
  b7 : Byte
  deriving DecidableEq, Repr

/-- `phase` (R50, R122): `idle`, `start`, or the hold point of the running command at which the engine waits.
The ten cells of a wake byte, the request bytes and the response bytes each share one name; which one it is
stands in `Locals.idx`. -/
inductive Phase where
  /-- no command runs (R120) -/
  | idle
  /-- `Start(cmd)`: accepted, nothing run yet (R121) -/
  | start
  /-- WAKEUP: `wait_ms(T_BIT_MS)` of cell `idx` (R152) -/
  | wakeCell
  /-- TRANSMIT: `uart_tx(b)` (R161) -/
  | transmitTx
  /-- RECEIVE: `uart_rx()` (R162) -/
  | receiveRx
  /-- CONNECT step 1: `wait_ms(T_IDLE_MS)` (R182) -/
  | connectIdle
  /-- CONNECT step 2: `wait_ms(T_BIT_MS)` of cell `idx` -/
  | connectCell
  /-- CONNECT step 3: `uart_rx()` of the sync byte -/
  | connectSync
  /-- CONNECT step 4: `uart_rx()` of key byte 1 -/
  | connectKey1
  /-- CONNECT step 4: `uart_rx()` of key byte 2 -/
  | connectKey2
  /-- CONNECT step 5: `wait_ms(T_W4_MS)` -/
  | connectW4
  /-- CONNECT step 5: `uart_tx(~k2)` -/
  | connectTx
  /-- CONNECT step 5 with `ACK_ECHO`: `uart_rx()` of the echo -/
  | connectEcho
  /-- CONNECT step 6: `wait_ms(T_W5_MS)` -/
  | connectW5
  /-- CONNECT step 6: `uart_rx()` of the final byte -/
  | connectAck
  /-- SEND_CMD: `wait_until(elapsed(t_cmd_end) >= T_REQ_MS)` (R210, R214) -/
  | sendGap
  /-- SEND_CMD: `wait_ms(T_BYTE_MS)` before request byte `idx` (R213) -/
  | sendSpacing
  /-- SEND_CMD: `uart_tx(f[idx])` -/
  | sendTx
  /-- SEND_CMD: `uart_rx()` of the echo of request byte `idx` (R212) -/
  | sendEcho
  /-- SEND_CMD: `uart_rx()` of response byte `idx` -/
  | sendResp
  deriving DecidableEq, Repr

/-- `locals` (R50): "the frame under send, byte index, wait start `t0`, received bytes". -/
structure Locals where
  /-- `NOW` when the current hold point was reached (R122) -/
  t0 : Word
  /-- wake cell, request byte or response byte index -/
  idx : Nat
  /-- the request frame under send, first byte first -/
  frame : List Byte
  /-- the response bytes taken so far, first byte first -/
  received : List Byte
  deriving DecidableEq, Repr

/-- `locals <- empty` (R121). -/
def Locals.empty : Locals := { t0 := 0, idx := 0, frame := [], received := [] }

/-- The machine. -/
structure State where
  /-- the build-time parameters (R6); no step changes them (log 5) -/
  cfg : Config
  /-- `CMD` (R24) -/
  cmd : Word
  /-- `STATUS.BUSY` (R25) -/
  busy : Bool
  /-- `STATUS.SESSION` (R25, R180) -/
  session : Session
  /-- `STATUS.LINE_MODE` (R25, R160) -/
  lineMode : LineMode
  /-- the port `kline_tx` and `STATUS.KLINE`, one level (R20, R25, R126) -/
  kline : Bool
  /-- `STATUS.TX_FULL` (R25, R163) -/
  txFull : Bool
  /-- `STATUS.RX_FULL` (R25, R164) -/
  rxFull : Bool
  /-- `STATUS.RX_OVERRUN` (R25, R167) -/
  rxOverrun : Bool
  /-- `STATUS.RES_VALID` (R25) -/
  resValid : Bool
  /-- `ERROR.CODE` (R34, R240) -/
  errKind : ErrorKind
  /-- `ERROR.BYTE` (R34, R241) -/
  errByte : Byte
  /-- `ERROR.POS` (R34, R241) -/
  errPos : Byte
  /-- `KEYS.SYNC` (R35) -/
  keySync : Byte
  /-- `KEYS.KEY1` (R35) -/
  key1 : Byte
  /-- `KEYS.KEY2` (R35) -/
  key2 : Byte
  /-- `TXDATA.DATA` (R36) -/
  txData : Byte
  /-- `RXDATA.DATA` (R37) -/
  rxData : Byte
  /-- `FRAMECFG.CMDLEN` (R38) -/
  cmdLen : BitVec 4
  /-- `FRAMECFG.EXPLEN` (R38) -/
  expLen : BitVec 4
  /-- `RXCSUM.RECEIVED` (R39) -/
  csumReceived : Byte
  /-- `RXCSUM.COMPUTED` (R39) -/
  csumComputed : Byte
  /-- `PIDBUF` (R40) -/
  pidBuf : Buf8
  /-- `RESBUF` (R41) -/
  resBuf : Buf8
  /-- `NOW` (R42) -/
  now : Word
  /-- `LAST_OK` (R43) -/
  lastOk : Word
  /-- hidden `phase` (R50) -/
  phase : Phase
  /-- hidden `locals` (R50) -/
  locals : Locals
  /-- hidden `tx_reg` (R50, R163) -/
  txReg : Byte
  /-- hidden `rx_reg` (R50, R164) -/
  rxReg : Byte
  /-- hidden `t_cmd_end` (R50, R214) -/
  tCmdEnd : Word
  /-- MODEL'S OWN (log 10): was a byte in the receive buffer when the running command was accepted? RECEIVE's first
  segment asks it (R162) -/
  rxAtAccept : Bool
  /-- the level of the port `rst` (R20, R270) -/
  rst : Bool
  /-- the stream of bytes emitted on the port `wire_tx`, oldest first (R20, R60, R165; log 6) -/
  wireTx : List Byte
  /-- the data the last host read returned (R20, R66; log 7) -/
  busData : Word
  /-- MODEL'S OWN (log 2): the agents' moves that come next, in order -/
  script : List Event
  /-- MODEL'S OWN (log 2): how many moves were taken from `Config.freeEvent` -/
  draws : Nat
  deriving DecidableEq, Repr

/-- Stops that are no step of any machine. -/
inductive Fault where
  /-- Raised by the meanings of WAKEUP, TRANSMIT, RECEIVE, CONNECT and SEND_CMD when `phase` is a hold point of
  another command. R122 gives no such state, and no state that meets the invariant of Sys2Proof/Safety.lean is
  one. DEDUCED, log 12; safe: the model stops. -/
  | phaseOfAnotherCommand
  deriving DecidableEq, Repr

/-- Steps the model does not admit. -/
inductive Refusal where
  /-- Raised by exec's arms for a command that has no meaning yet; safe. -/
  | notModelled (mnemonic : String)
  /-- Raised by a host access with `offset[1:0]` /= 0: "A model refuses it" (R65, 93 I1); safe. Log 8. -/
  | misalignedAccess
  /-- Raised by a host access at an offset at or above 0x40, which "does not reach the block" (R61, 93 I2); safe.
  Log 8. -/
  | offsetOutsideSpace
  deriving DecidableEq, Repr

/-- What a step of the machine answers. -/
abbrev Result := Host.Outcome State Fault Refusal

/-- Every byte of a buffer 0 (R53). -/
def Buf8.zero : Buf8 := { b0 := 0, b1 := 0, b2 := 0, b3 := 0, b4 := 0, b5 := 0, b6 := 0, b7 := 0 }

/-- The machine right after reset (R53, R270), with the default parameters of R6. `rst` is released, and the
model's own fields hold nothing (log 2, 6, 7, 9, 10). -/
def State.reset : State where
  cfg := Config.default
  cmd := 0
  busy := false
  session := .disconnected
  lineMode := .gpio
  kline := true
  txFull := false
  rxFull := false
  rxOverrun := false
  resValid := false
  errKind := .none
  errByte := 0
  errPos := 0
  keySync := 0
  key1 := 0
  key2 := 0
  txData := 0
  rxData := 0
  cmdLen := 0
  expLen := 0
  csumReceived := 0
  csumComputed := 0
  pidBuf := Buf8.zero
  resBuf := Buf8.zero
  now := 0
  lastOk := 0
  phase := .idle
  locals := Locals.empty
  txReg := 0
  rxReg := 0
  tCmdEnd := 0
  rxAtAccept := false
  rst := false
  wireTx := []
  busData := 0
  script := []
  draws := 0

end Sys2Proof.Machine
end

