-- ==== Sys2Proof/Machine/Operands.lean ====
section
/-!
DEFINITION. Operands and wire formats: the byte buffers and their packing (R64), the operands of TRANSMIT and
SEND_CMD (R95, R96), the bit cells of a byte (R98, R99), the additive checksum (R9, R101), the request frame
(R100) and the response frame's checks (R103, R215 to R218).
-/
namespace Sys2Proof.Machine

/-- Byte `i` of a buffer; a buffer has bytes 0 to 7 (R64). -/
def Buf8.get (b : Buf8) (i : Nat) : Byte :=
  match i with
  | 0 => b.b0
  | 1 => b.b1
  | 2 => b.b2
  | 3 => b.b3
  | 4 => b.b4
  | 5 => b.b5
  | 6 => b.b6
  | 7 => b.b7
  | _ => 0

/-- The buffer whose byte `i` is `f i`. -/
def Buf8.ofFn (f : Nat → Byte) : Buf8 :=
  { b0 := f 0, b1 := f 1, b2 := f 2, b3 := f 3, b4 := f 4, b5 := f 5, b6 := f 6, b7 := f 7 }

/-- The four bytes from byte `4*k` on as a word, byte `4*k` in bits 7:0 (R64). Bytes with index at or above
`size` read 0 (R40, R41). -/
def packWord (size : Nat) (b : Buf8) (k : Nat) : Word :=
  let byte := fun j => if 4 * k + j < size then b.get (4 * k + j) else 0
  byte 3 ++ byte 2 ++ byte 1 ++ byte 0

/-- Byte `j` of a word: bits `8*j+7` to `8*j` (R64). -/
def byteOfWord (v : Word) (j : Nat) : Byte := v.extractLsb' (8 * j) 8

/-- A host write of `v` to word `k` of a buffer: bytes `4*k` to `4*k+3` below `size` are stored, the others
ignore the write (R40, R64). -/
def storeWord (size : Nat) (b : Buf8) (k : Nat) (v : Word) : Buf8 :=
  Buf8.ofFn fun i => if i / 4 = k ∧ i < size then byteOfWord v (i % 4) else b.get i

/-- `n = zext_32(FRAMECFG[3:0])`, the number of command bytes (R96). -/
def State.n (s : State) : Nat := s.cmdLen.toNat

/-- `e = zext_32(FRAMECFG[11:8])`, the expected result length (R96). -/
def State.e (s : State) : Nat := s.expLen.toNat

/-- SEND_CMD's operand ranges: `1 <= n <= PIDBUF_SIZE` and `e <= RESBUF_SIZE` (R38, R133). -/
def lengthsLegal (c : Config) (n e : Nat) : Bool :=
  1 ≤ n && n ≤ c.pidBufSize && e ≤ c.resBufSize

/-- The command bytes `p[j] = PIDBUF[j]`, `0 <= j < n` (R96). -/
def pidBytes (b : Buf8) (n : Nat) : List Byte := (List.range n).map b.get

/-- `cs(s)`: the sum of the bytes modulo 256 (R9, R101). -/
def checksum : List Byte → Byte
  | [] => 0
  | b :: rest => b + checksum rest

/-- The request frame for command bytes `p` (R100): the length byte `REQ_LEN_BASE +8 n` (R102), `DEST`, `SRC`,
`p`, and the checksum of all bytes before it. -/
def requestFrame (c : Config) (p : List Byte) : List Byte :=
  let body := (c.reqLenBase + BitVec.ofNat 8 p.length) :: c.dest :: c.src :: p
  body ++ [checksum body]

/-- The check of response byte `pos` with value `y`, for `n` command bytes `p` and `e` result bytes (R103): the
length as integers (R215), the addresses (R216), the command echo (R217); result bytes are not checked (R218). -/
def responseCheck (c : Config) (p : Buf8) (n e pos : Nat) (y : Byte) : Option ErrorKind :=
  if pos = 0 then
    if y.toNat = c.respLenBase.toNat + n + e then none else some .frameLengthMismatch
  else if pos = 1 then
    if y = c.respDest then none else some .addressMismatch
  else if pos = 2 then
    if y = c.respSrc then none else some .addressMismatch
  else if pos < 3 + n then
    if y = p.get (pos - 3) then none else some .commandEchoMismatch
  else none

/-- The levels of the ten bit cells of a byte on the line: start bit 0, the data bits least significant first,
stop bit 1 (R68, R98). The 10.4 kbit/s byte has the same cells (R99), but no rule counts them. -/
def bitCells (b : Byte) : List Bool :=
  [false, b.getLsbD 0, b.getLsbD 1, b.getLsbD 2, b.getLsbD 3, b.getLsbD 4, b.getLsbD 5, b.getLsbD 6,
   b.getLsbD 7, true]

/-- The level of cell `k` of the wake byte `ADDR_BYTE` (R98, R152). -/
def wakeLevel (c : Config) (k : Nat) : Bool := (bitCells c.addrByte).getD k true

end Sys2Proof.Machine
end

