-- ==== Sys2Proof/Machine/Flags.lean ====
section
/-!
DEFINITION. The flags and the register words as the host reads them: elapsed time (R9), the keep-alive condition
(R190, R191), `STATUS` (R25), `ERROR` (R34, R240), `KEYS`, `FRAMECFG`, `RXCSUM` and the register map (R23).
-/
namespace Sys2Proof.Machine

/-- `elapsed(t) = (NOW - t) mod 2^32` (R9). -/
def elapsed (s : State) (t : Word) : Nat := (s.now - t).toNat

/-- `ka_expired()` (R190): a gap of exactly `T_KA_MS` is not a violation. -/
def kaExpired (s : State) : Bool :=
  s.session == .ready && s.cfg.tKa < elapsed s s.lastOk

/-- The encoding of `STATUS.SESSION` (R25, R180). -/
def Session.code : Session → BitVec 2
  | .disconnected => 0
  | .initializing => 1
  | .ready => 2
  | .faulted => 3

/-- The encoding of `STATUS.LINE_MODE` (R25). -/
def LineMode.code : LineMode → BitVec 1
  | .gpio => 0
  | .uart => 1

/-- `ERROR.CODE` (R240). -/
def ErrorKind.code : ErrorKind → Byte
  | .none => 0x00
  | .handshakeFailure => 0x01
  | .echoMismatch => 0x02
  | .frameLengthMismatch => 0x03
  | .addressMismatch => 0x04
  | .commandEchoMismatch => 0x05
  | .sessionExpired => 0x06
  | .notReady => 0x07
  | .stateError => 0x08
  | .illegalCommand => 0x09
  | .badLength => 0x0A
  | .timeout => 0x0B
  | .checksumMismatch => 0x0C

/-- `STATUS` (R25), `KA_EXPIRED` in bit 9 down to `BUSY` in bit 0. -/
def statusWord (s : State) : Word :=
  0#22 ++ BitVec.ofBool (kaExpired s) ++ BitVec.ofBool s.resValid ++ BitVec.ofBool s.rxOverrun
    ++ BitVec.ofBool s.rxFull ++ BitVec.ofBool s.txFull ++ BitVec.ofBool s.kline ++ s.lineMode.code
    ++ s.session.code ++ BitVec.ofBool s.busy

/-- `ERROR` (R34, R246): `POS` in 23:16, `BYTE` in 15:8, `CODE` in 7:0. -/
def errorWord (s : State) : Word := 0#8 ++ s.errPos ++ s.errByte ++ s.errKind.code

/-- `KEYS` (R35): `SYNC` in 23:16, `KEY2` in 15:8, `KEY1` in 7:0. -/
def keysWord (s : State) : Word := 0#8 ++ s.keySync ++ s.key2 ++ s.key1

/-- `FRAMECFG` (R38): `EXPLEN` in 11:8, `CMDLEN` in 3:0. -/
def frameCfgWord (s : State) : Word := 0#20 ++ s.expLen ++ 0#4 ++ s.cmdLen

/-- `RXCSUM` (R39): `COMPUTED` in 15:8, `RECEIVED` in 7:0. -/
def rxCsumWord (s : State) : Word := 0#16 ++ s.csumComputed ++ s.csumReceived

/-- The sixteen words of the register file (R23). -/
inductive Reg where
  | cmd
  | status
  | error
  | keys
  | txData
  | rxData
  | frameCfg
  | rxCsum
  | pidBuf0
  | pidBuf1
  | resBuf0
  | resBuf1
  | now
  | lastOk
  | reserved38
  | reserved3C
  deriving DecidableEq, Repr

/-- `offset(REG)` (R23, R106). -/
def Reg.offset : Reg → Word
  | .cmd => 0x00
  | .status => 0x04
  | .error => 0x08
  | .keys => 0x0C
  | .txData => 0x10
  | .rxData => 0x14
  | .frameCfg => 0x18
  | .rxCsum => 0x1C
  | .pidBuf0 => 0x20
  | .pidBuf1 => 0x24
  | .resBuf0 => 0x28
  | .resBuf1 => 0x2C
  | .now => 0x30
  | .lastOk => 0x34
  | .reserved38 => 0x38
  | .reserved3C => 0x3C

/-- The register at an aligned offset below 0x40 (R23). -/
def regAt (addr : Word) : Reg :=
  match addr.toNat / 4 with
  | 0 => .cmd
  | 1 => .status
  | 2 => .error
  | 3 => .keys
  | 4 => .txData
  | 5 => .rxData
  | 6 => .frameCfg
  | 7 => .rxCsum
  | 8 => .pidBuf0
  | 9 => .pidBuf1
  | 10 => .resBuf0
  | 11 => .resBuf1
  | 12 => .now
  | 13 => .lastOk
  | 14 => .reserved38
  | _ => .reserved3C

/-- The 32-bit value of a register (R24 to R43, R66), "with every unlisted bit 0". -/
def readReg (s : State) : Reg → Word
  | .cmd => s.cmd
  | .status => statusWord s
  | .error => errorWord s
  | .keys => keysWord s
  | .txData => 0#24 ++ s.txData
  | .rxData => 0#24 ++ s.rxData
  | .frameCfg => frameCfgWord s
  | .rxCsum => rxCsumWord s
  | .pidBuf0 => packWord s.cfg.pidBufSize s.pidBuf 0
  | .pidBuf1 => packWord s.cfg.pidBufSize s.pidBuf 1
  | .resBuf0 => packWord s.cfg.resBufSize s.resBuf 0
  | .resBuf1 => packWord s.cfg.resBufSize s.resBuf 1
  | .now => s.now
  | .lastOk => s.lastOk
  | .reserved38 => 0
  | .reserved3C => 0

end Sys2Proof.Machine
end

