-- ==== Sys2Proof/Machine/Ops.lean ====
section
/-!
DEFINITION. The named operations every command uses: accepting a command (R121), reaching and completing a hold
point (R122, R127 to R130), driving the line and changing its mode (R126, R160), ending a command with success
(R123) or by an error (R246: the block's one way to take an exception), and reset (R270).
-/
namespace Sys2Proof.Machine

/-- Accept of the word `v` (R121). The command is decoded from `CMD` at every engine step; `CMD` does not change
while the command runs (R44), so this is the `cmd` of the rule. `rxAtAccept` keeps for RECEIVE whether a byte is
there now (R162; log 10). -/
def accept (v : Word) (s : State) : State :=
  { s with
    cmd := v, busy := true, rxOverrun := false, locals := Locals.empty, phase := .start, rxAtAccept := s.rxFull }

/-- Reaching the hold point `p`: `phase` is set to it and `t0 <- NOW` (R122). -/
def hold (p : Phase) (s : State) : State :=
  { s with phase := p, locals := { s.locals with t0 := s.now } }

/-- The byte index of the running command (R50). -/
def setIdx (i : Nat) (s : State) : State :=
  { s with locals := { s.locals with idx := i } }

/-- `finish()` (R123). -/
def finish (s : State) : State :=
  { s with errKind := .none, errByte := 0, errPos := 0, phase := .idle, busy := false }

/-- `raise E(byte, pos)` (R246): the end of a command by an error. There is no handler and no return from it
(R248). -/
def raiseError (k : ErrorKind) (byte pos : Byte) (s : State) : State :=
  { s with errKind := k, errByte := byte, errPos := pos, phase := .idle, busy := false }

/-- `hs_fail(E, byte, step)` of CONNECT (R182). -/
def hsFail (k : ErrorKind) (byte step : Byte) (s : State) : State :=
  raiseError k byte step { s with session := .faulted }

/-- `end_cmd(E, byte, pos)` of SEND_CMD (R210). -/
def endCmd (k : ErrorKind) (byte pos : Byte) (s : State) : State :=
  raiseError k byte pos { s with tCmdEnd := s.now }

/-- `drive(l)` (R126). -/
def drive (l : Bool) (s : State) : State := { s with kline := l }

/-- `enter_gpio_mode()` (R160): a byte not yet emitted is never emitted (R169). -/
def enterGpio (s : State) : State := { s with lineMode := .gpio, txFull := false }

/-- `enter_uart_mode()` (R160): the receive buffer is emptied (R168) and the line is at 1. -/
def enterUart (s : State) : State := { s with lineMode := .uart, rxFull := false, kline := true }

/-- The condition of `wait_ms(n)`: `elapsed(t0) >= n` (R127). -/
def waited (n : Nat) (s : State) : Bool := n ≤ elapsed s s.locals.t0

/-- The inter-request gap has passed: `elapsed(t_cmd_end) >= T_REQ_MS` (R210, R214). -/
def gapPassed (s : State) : Bool := s.cfg.tReq ≤ elapsed s s.tCmdEnd

/-- The time limit of a `uart_rx()` has passed: only when `RX_TIMEOUT_MS > 0` (R130). -/
def timedOut (s : State) : Bool := 0 < s.cfg.rxTimeout && s.cfg.rxTimeout ≤ elapsed s s.locals.t0

/-- Completing `wait_ms(n)` (R127), then `k`; while its condition is false the engine holds (R122). -/
def onWait (n : Nat) (k : State → State) (s : State) : State := if waited n s then k s else s

/-- Completing `wait_until(elapsed(t_cmd_end) >= T_REQ_MS)` (R128, R214), then `k`. -/
def onGap (k : State → State) (s : State) : State := if gapPassed s then k s else s

/-- Completing `uart_tx(b)` (R129), then `k`; while the transmit buffer is full the engine holds. -/
def onTx (b : Byte) (k : State → State) (s : State) : State :=
  if s.txFull then s else k { s with txReg := b, txFull := true }

/-- Completing `uart_rx()` (R130): the byte is taken and `got` runs on; with no byte and the time limit passed
`late` runs; otherwise the engine holds. A byte wins over the time limit. -/
def onRx (late : State → State) (got : Byte → State → State) (s : State) : State :=
  if s.rxFull then got s.rxReg { s with rxFull := false }
  else if timedOut s then late s
  else s

/-- The condition of the hold point at `phase` (R122, R127 to R130). -/
def holdReady (s : State) : Bool :=
  match s.phase with
  | .idle => false
  | .start => true
  | .wakeCell => waited s.cfg.tBit s
  | .connectCell => waited s.cfg.tBit s
  | .connectIdle => waited s.cfg.tIdle s
  | .connectW4 => waited s.cfg.tW4 s
  | .connectW5 => waited s.cfg.tW5 s
  | .sendSpacing => waited s.cfg.tByte s
  | .sendGap => gapPassed s
  | .transmitTx => !s.txFull
  | .connectTx => !s.txFull
  | .sendTx => !s.txFull
  | .receiveRx => s.rxFull || timedOut s
  | .connectSync => s.rxFull || timedOut s
  | .connectKey1 => s.rxFull || timedOut s
  | .connectKey2 => s.rxFull || timedOut s
  | .connectEcho => s.rxFull || timedOut s
  | .connectAck => s.rxFull || timedOut s
  | .sendEcho => s.rxFull || timedOut s
  | .sendResp => s.rxFull || timedOut s

/-- The engine has an enabled step: a command runs and its hold point's condition holds (R120, R122). -/
def engineEnabled (s : State) : Bool := s.busy && holdReady s

/-- The first cell of `send_wakeup_body()` (R152), held at the phase `p`. -/
def wakeBegin (p : Phase) (s : State) : State :=
  hold p (drive (wakeLevel s.cfg 0) (setIdx 0 s))

/-- After a cell of `send_wakeup_body()` has lasted `T_BIT_MS`: the next cell, or `done` after the stop bit
(R152). -/
def wakeNext (p : Phase) (done : State → State) (s : State) : State :=
  if s.locals.idx < 9 then
    hold p (drive (wakeLevel s.cfg (s.locals.idx + 1)) (setIdx (s.locals.idx + 1) s))
  else done s

/-- Every piece of the block's state at its reset value (R53, R270). The parameters stay, being fixed at build
time (R275); so do the level of `rst`, what the outside has seen (`wireTx`, `busData`) and the agents' coming
moves, which are not the block's (log 2, 6, 7, 9). -/
def resetBlock (s : State) : State :=
  { State.reset with
    cfg := s.cfg, rst := s.rst, wireTx := s.wireTx, busData := s.busData, script := s.script, draws := s.draws }

end Sys2Proof.Machine
end

