-- ==== Sys2Proof/Machine/BitBang.lean ====
section
/-!
DEFINITION. The Bit-Bang Initiator (41_bitbang.md): WAKEUP.
-/
namespace Sys2Proof.Machine

/-- The first segment of WAKEUP (R133, R150): only in Disconnected or Faulted. -/
def wakeupStart (s : State) : State :=
  if s.session = .disconnected ∨ s.session = .faulted then wakeBegin .wakeCell (enterGpio s)
  else raiseError .stateError 0x00 0x00 s

/-- `WAKEUP` (R150): one segment, from the hold point at `phase`. -/
def execWakeup (s : State) : Result :=
  match s.phase with
  | .idle | .start => .next (wakeupStart s)
  | .wakeCell => .next (onWait s.cfg.tBit (wakeNext .wakeCell finish) s)
  | _ => .fault .phaseOfAnotherCommand

end Sys2Proof.Machine
end

