-- ==== Sys2Proof/Machine/Control.lean ====
section
/-!
DEFINITION. The commands outside the sub-blocks (40_control.md): NOP, and the end of an illegal command word.
-/
namespace Sys2Proof.Machine

/-- `NOP` (R125): `finish()`, in every state. -/
def execNop (s : State) : Result := .next (finish s)

/-- An illegal command word (R131): `raise IllegalCommand(0x00, 0x00)`. -/
def illegalCommand (s : State) : State := raiseError .illegalCommand 0x00 0x00 s

end Sys2Proof.Machine
end

