-- ==== Sys2Proof/Machine/FrameCodec.lean ====
section
/-!
DEFINITION. The Frame Codec (44_frame_codec.md): SEND_CMD, rule R210.
-/
namespace Sys2Proof.Machine

/-- A byte index or response position as `ERROR.POS` holds it (R34, R246). -/
def posByte (i : Nat) : Byte := BitVec.ofNat 8 i

/-- The first segment (R210): `RES_VALID <- 0`, the two preconditions (R133), then the inter-request gap.
`RES_VALID` falls before the preconditions are checked. DEDUCED, log 11. -/
def sendStart (s : State) : State :=
  let s := { s with resValid := false }
  if s.session = .ready then
    if lengthsLegal s.cfg s.n s.e then hold .sendGap s else raiseError .badLength 0x00 0x00 s
  else raiseError .notReady 0x00 0x00 s

/-- After the gap (R190, R210): the keep-alive check, then the request frame and its first byte. -/
def sendAfterGap (s : State) : State :=
  if kaExpired s then endCmd .sessionExpired 0x00 0x00 { s with session := .faulted }
  else
    hold .sendTx
      { s with locals := { s.locals with frame := requestFrame s.cfg (pidBytes s.pidBuf s.n), idx := 0 } }

/-- The request byte under send, `f[i]`. -/
def frameByte (s : State) : Byte := s.locals.frame.getD s.locals.idx 0

/-- After the echo of request byte `i` is taken (R212, R213): the next request byte after its spacing, or the
response. -/
def sendGotEcho (x : Byte) (s : State) : State :=
  if x = frameByte s then
    if s.locals.idx < s.n + 3 then hold .sendSpacing (setIdx (s.locals.idx + 1) s)
    else hold .sendResp { s with locals := { s.locals with idx := 0, received := [] } }
  else endCmd .echoMismatch x (posByte s.locals.idx) s

/-- The result bytes among the received response bytes (R103). -/
def resultBytes (s : State) : List Byte := (s.locals.received.drop (3 + s.n)).take s.e

/-- The commit of a successful SEND_CMD (R210, R220): `RESBUF[k] <- r[k]` for `k < e`. -/
def commitResults (s : State) : State :=
  let r := resultBytes s
  { s with
    resBuf := Buf8.ofFn fun k => if k < s.e then r.getD k 0 else s.resBuf.get k
    resValid := true
    lastOk := s.now
    tCmdEnd := s.now }

/-- The trailing checksum byte `c` (R210, R219). -/
def sendGotChecksum (c : Byte) (s : State) : State :=
  let comp := checksum s.locals.received
  let t := { s with csumComputed := comp, csumReceived := c }
  if s.cfg.verifyRxChecksum ∧ c ≠ comp then
    endCmd .checksumMismatch c (posByte (3 + s.n + s.e)) t
  else finish (commitResults t)

/-- Response byte `idx` (R210): each byte's check before the next is read; the byte after the results is the
checksum. -/
def sendGotResponse (y : Byte) (s : State) : State :=
  if s.locals.idx < 3 + s.n + s.e then
    match responseCheck s.cfg s.pidBuf s.n s.e s.locals.idx y with
    | some k => endCmd k y (posByte s.locals.idx) s
    | none =>
      hold .sendResp
        { s with locals := { s.locals with idx := s.locals.idx + 1, received := s.locals.received ++ [y] } }
  else sendGotChecksum y s

/-- `SEND_CMD` (R210): one segment, from the hold point at `phase`. -/
def execSendCmd (s : State) : Result :=
  match s.phase with
  | .idle | .start => .next (sendStart s)
  | .sendGap => .next (onGap sendAfterGap s)
  | .sendSpacing => .next (onWait s.cfg.tByte (hold .sendTx) s)
  | .sendTx => .next (onTx (frameByte s) (hold .sendEcho) s)
  | .sendEcho => .next (onRx (endCmd .timeout 0x00 (posByte s.locals.idx)) sendGotEcho s)
  | .sendResp => .next (onRx (endCmd .timeout 0x00 (0x80 + posByte s.locals.idx)) sendGotResponse s)
  | _ => .fault .phaseOfAnotherCommand

end Sys2Proof.Machine
end

