-- ==== Sys2Proof/Machine/SessionCmds.lean ====
section
/-!
DEFINITION. The Session State Machine's commands (43_session.md): CONNECT, the slow-init handshake of R182, and
DISCONNECT (R192).
-/
namespace Sys2Proof.Machine

/-- The first segment: the precondition, Initializing, and step 1, "Drive the wake line high (idle)" (R182). -/
def connectStart (s : State) : State :=
  if s.session = .disconnected then
    hold .connectIdle (drive true (enterGpio { s with session := .initializing }))
  else raiseError .stateError 0x00 0x00 s

/-- The start of step 3, after the stop bit's full `T_BIT_MS` (R153, R182): UART mode, then the sync byte. -/
def connectToUart (s : State) : State := hold .connectSync (enterUart s)

/-- Step 3: the sync byte is stored, then checked (R182). -/
def connectGotSync (b : Byte) (s : State) : State :=
  if b = s.cfg.syncByte then hold .connectKey1 { s with keySync := b }
  else hsFail .handshakeFailure b 3 { s with keySync := b }

/-- Step 4: the key bytes are stored and not checked (R184). -/
def connectGotKey1 (b : Byte) (s : State) : State := hold .connectKey2 { s with key1 := b }

/-- Step 4, the second key byte; then step 5's wait (R182). -/
def connectGotKey2 (b : Byte) (s : State) : State := hold .connectW4 { s with key2 := b }

/-- Step 5, after `~k2` is in the transmit buffer: its echo with `ACK_ECHO` (R187), else step 6's wait. -/
def connectSentAck (s : State) : State :=
  if s.cfg.ackEcho then hold .connectEcho s else hold .connectW5 s

/-- Step 5 with `ACK_ECHO`: the echo must be `~k2` (R182, R187). -/
def connectGotEcho (b : Byte) (s : State) : State :=
  if b = ~~~s.key2 then hold .connectW5 s else hsFail .handshakeFailure b 5 s

/-- Step 6: the final byte must be `~ADDR_BYTE`; then step 7 (R182). -/
def connectGotAck (b : Byte) (s : State) : State :=
  if b = s.cfg.ackByte then
    finish { s with session := .ready, lastOk := s.now, tCmdEnd := s.now }
  else hsFail .handshakeFailure b 6 s

/-- `CONNECT` (R182): one segment, from the hold point at `phase`. `k2` is read back from `KEYS.KEY2`, which
nothing writes in between (log 14). -/
def execConnect (s : State) : Result :=
  match s.phase with
  | .idle | .start => .next (connectStart s)
  | .connectIdle => .next (onWait s.cfg.tIdle (wakeBegin .connectCell) s)
  | .connectCell => .next (onWait s.cfg.tBit (wakeNext .connectCell connectToUart) s)
  | .connectSync => .next (onRx (hsFail .timeout 0x00 3) connectGotSync s)
  | .connectKey1 => .next (onRx (hsFail .timeout 0x00 4) connectGotKey1 s)
  | .connectKey2 => .next (onRx (hsFail .timeout 0x00 4) connectGotKey2 s)
  | .connectW4 => .next (onWait s.cfg.tW4 (hold .connectTx) s)
  | .connectTx => .next (onTx (~~~s.key2) connectSentAck s)
  | .connectEcho => .next (onRx (hsFail .timeout 0x00 5) connectGotEcho s)
  | .connectW5 => .next (onWait s.cfg.tW5 (hold .connectAck) s)
  | .connectAck => .next (onRx (hsFail .timeout 0x00 6) connectGotAck s)
  | _ => .fault .phaseOfAnotherCommand

/-- `DISCONNECT` (R192): legal in every state; nothing on the wire. -/
def execDisconnect (s : State) : Result :=
  .next (finish { s with session := .disconnected, resValid := false })

end Sys2Proof.Machine
end

