-- ==== Sys2Proof/Machine/Transceiver.lean ====
section
/-!
DEFINITION. The Byte Transceiver's commands (42_transceiver.md): TRANSMIT and RECEIVE.
-/
namespace Sys2Proof.Machine

/-- The first segment of TRANSMIT (R133, R161). -/
def transmitStart (s : State) : State :=
  if s.lineMode = .uart then hold .transmitTx s else raiseError .stateError 0x00 0x00 s

/-- `TRANSMIT` (R161): the byte `TXDATA[7:0]` (R95) into the transmit buffer. -/
def execTransmit (s : State) : Result :=
  match s.phase with
  | .idle | .start => .next (transmitStart s)
  | .transmitTx => .next (onTx s.txData finish s)
  | _ => .fault .phaseOfAnotherCommand

/-- RECEIVE's hold point and what follows it (R162). -/
def receiveByte (s : State) : State :=
  onRx (raiseError .timeout 0x00 0x00) (fun b t => finish { t with rxData := b }) s

/-- The first segment of RECEIVE (R133, R162). "If a byte is already in the receive buffer when RECEIVE is
accepted, RECEIVE returns it at its first engine step" (R162): it reaches the hold point and completes it at once.
In every other case, a byte that came after acceptance included, the segment ends at the hold point (R122).
DEDUCED, log 10; unsafe for a count of engine steps in that corner case, else safe. -/
def receiveStart (s : State) : State :=
  if s.lineMode = .uart then
    if s.rxAtAccept then receiveByte (hold .receiveRx s) else hold .receiveRx s
  else raiseError .stateError 0x00 0x00 s

/-- `RECEIVE` (R162). -/
def execReceive (s : State) : Result :=
  match s.phase with
  | .idle | .start => .next (receiveStart s)
  | .receiveRx => .next (receiveByte s)
  | _ => .fault .phaseOfAnotherCommand

end Sys2Proof.Machine
end

