-- ==== Sys2Proof/Machine/Dispatch.lean ====
section
/-!
DEFINITION. exec: one engine segment of a command (R122), one arm per command.
-/
namespace Sys2Proof.Machine

def exec (i : Instr) (s : State) : Host.Outcome State Fault Refusal :=
  match i with
  | .nop => Sys2Proof.Machine.execNop s
  | .wakeup => Sys2Proof.Machine.execWakeup s
  | .transmit => Sys2Proof.Machine.execTransmit s
  | .receive => Sys2Proof.Machine.execReceive s
  | .connect => Sys2Proof.Machine.execConnect s
  | .sendCmd => Sys2Proof.Machine.execSendCmd s
  | .disconnect => Sys2Proof.Machine.execDisconnect s

end Sys2Proof.Machine
end

