-- ==== Sys2Proof/Machine/Agents.lean ====
section
/-!
DEFINITION. The steps of the six agents (00_scope.md R13): host accesses (R66, R67), the engine's segment (R122),
the tick (R255), the Serializer (R165), the Line (R166, R167), reset (R270); and which of them moves next.
-/
namespace Sys2Proof.Machine

/-- The register a write stores to while no command runs (R36, R38, R40, R67); the other words ignore writes. -/
def storeReg (r : Reg) (v : Word) (s : State) : State :=
  match r with
  | .cmd => accept v s
  | .txData => { s with txData := v.extractLsb' 0 8 }
  | .frameCfg => { s with cmdLen := v.extractLsb' 0 4, expLen := v.extractLsb' 8 4 }
  | .pidBuf0 => { s with pidBuf := storeWord s.cfg.pidBufSize s.pidBuf 0 v }
  | .pidBuf1 => { s with pidBuf := storeWord s.cfg.pidBufSize s.pidBuf 1 v }
  | .status | .error | .keys | .rxData | .rxCsum | .resBuf0 | .resBuf1 | .now | .lastOk | .reserved38
  | .reserved3C => s

/-- A host write that reaches the register file: no effect while `BUSY` = 1 (R44, R67). -/
def writeReg (r : Reg) (v : Word) (s : State) : State := if s.busy then s else storeReg r v s

/-- The check of a host access (R61, R65); an access that passes it goes on with `k`. -/
def onAccess (addr : Word) (k : Reg → State) : Result :=
  if 0x40 ≤ addr.toNat then .refused .offsetOutsideSpace
  else if addr.toNat % 4 ≠ 0 then .refused .misalignedAccess
  else .next (k (regAt addr))

/-- `MemRead(addr, 4)` (R66): the value appears on the bus; nothing else changes. -/
def hostRead (addr : Word) (s : State) : Result :=
  onAccess addr fun r => { s with busData := readReg s r }

/-- `MemWrite(addr, 4, v)` (R67). -/
def hostWrite (addr v : Word) (s : State) : Result :=
  onAccess addr fun r => writeReg r v s

/-- The engine's step (R122): the command in `CMD` (R72), decoded, runs one segment; an illegal word ends with
`IllegalCommand` (R131). -/
def engineStep (s : State) : Result :=
  match decode s.cmd with
  | .command i => exec i s
  | .illegal _ => .next (illegalCommand s)

/-- One tick (R255): `NOW` wraps at 2^32 (R257). -/
def tick (s : State) : State := { s with now := s.now + 1 }

/-- The Serializer's step (R165), where it is enabled; otherwise the Serializer has none (log 4). -/
def serialize (s : State) : State :=
  if s.txFull = true ∧ s.lineMode = .uart then
    { s with wireTx := s.wireTx ++ [s.txReg], txFull := false }
  else s

/-- A byte arrives while the receive buffer is full (R167). -/
def overrun (x : Byte) (s : State) : State :=
  match s.cfg.overrunPolicy with
  | .dropNew => { s with rxOverrun := true }
  | .dropOld => { s with rxOverrun := true, rxReg := x }

/-- The Line's step `deliver(x)` (R166): the receiver is off in GPIO mode (R21, R154). -/
def deliver (x : Byte) (s : State) : State :=
  match s.lineMode with
  | .gpio => s
  | .uart => if s.rxFull then overrun x s else { s with rxReg := x, rxFull := true }

/-- `rst` is asserted: everything to its reset value in this one step (R270). -/
def assertReset (s : State) : State := { resetBlock s with rst := true }

/-- A move while `rst` is asserted (R270): no other agent of the block steps and a delivery is discarded; only
the release of `rst` has an effect (log 9). -/
def moveInReset (e : Event) (s : State) : State :=
  match e with
  | .rstRelease => { s with rst := false }
  | .engine | .tick | .serialize | .deliver _ | .hostRead _ | .hostWrite _ _ | .rstAssert => s

/-- The move that comes next: the first of `script`, and where none is listed a free value (R13, R251; log 2). -/
def nextEvent (s : State) : Event :=
  match s.script with
  | e :: _ => e
  | [] => Config.freeEvent s.draws

/-- The move that came next has been taken. -/
def popEvent (s : State) : State :=
  match s.script with
  | _ :: rest => { s with script := rest }
  | [] => { s with draws := s.draws + 1 }

/-- One move of one agent. A tick waits while the engine has an enabled step, and that step is taken first
(R256; log 3); an agent that is not enabled has no step, and its move passes (log 4). -/
def move (e : Event) (s : State) : Result :=
  if s.rst then .next (moveInReset e (popEvent s))
  else match e with
    | .engine => if engineEnabled s then engineStep (popEvent s) else .next (popEvent s)
    | .tick => if engineEnabled s then engineStep s else .next (tick (popEvent s))
    | .serialize => .next (serialize (popEvent s))
    | .deliver x => .next (deliver x (popEvent s))
    | .hostRead a => hostRead a (popEvent s)
    | .hostWrite a v => hostWrite a v (popEvent s)
    | .rstAssert => .next (assertReset (popEvent s))
    | .rstRelease => .next (popEvent s)

end Sys2Proof.Machine
end

