-- ==== Sys2Proof/Machine/Step.lean ====
section
/-!
DEFINITION. The step of the whole machine, and the host's way to place a command.
-/
namespace Sys2Proof.Machine

/-- One step: the agent that comes next makes its move (R13, R251). -/
def step (s : State) : Host.Outcome State Fault Refusal := move (nextEvent s) s

/-- `s` with the command word `w` accepted (R121) and the engine's step as the next move, so that the next step
runs the first segment of exactly this command. The block fetches no code (R61, R72): a command stands in `CMD`,
put there by the host's write while the engine is idle. `rst` is released, since nothing runs under it. Log 19. -/
def State.withFetchWord (s : State) (nbits w : Nat) : State :=
  { accept (BitVec.ofNat 32 (w % 2 ^ nbits)) s with rst := false, script := .engine :: s.script }

end Sys2Proof.Machine
end

