-- ==== Sys2Proof/Machine/HostProgram.lean ====
section
/-!
DEFINITION. The host program notation of 30_encoding.md section 4: one bus operation a line (R106), and the
pseudo-instructions and their expansions (R97, R107). A program lives in the host, not in the block: here it
becomes the host's moves.
-/
namespace Sys2Proof.Machine

/-- One line of a host program (R106). -/
inductive HostLine where
  /-- `WR <REG>, <imm32>` -/
  | wr (r : Reg) (v : Word)
  /-- `RD <REG>` -/
  | rd (r : Reg)
  /-- `POLL`: "repeat `RD STATUS` until `STATUS.BUSY = 0`" -/
  | poll
  deriving DecidableEq, Repr

/-- The column "Bus encoding" of R106. POLL is `(R, 0x04)` repeated; `k` says how often the host reads before it
sees `BUSY` = 0, which depends on the run (log 20). -/
def HostLine.events (k : Nat) : HostLine → List Event
  | .wr r v => [.hostWrite r.offset v]
  | .rd r => [.hostRead r.offset]
  | .poll => List.replicate k (.hostRead Reg.status.offset)

/-- `WR CMD, <word of the command>` ; `POLL` (R107). -/
def runCommand (i : Instr) : List HostLine := [.wr .cmd (encode i), .poll]

/-- `TRANSMIT b` (R107). -/
def pseudoTransmit (b : Byte) : List HostLine := .wr .txData (0#24 ++ b) :: runCommand .transmit

/-- `RECEIVE` (R107). -/
def pseudoReceive : List HostLine := runCommand .receive ++ [.rd .rxData]

/-- `CONNECT` (R107). -/
def pseudoConnect : List HostLine := runCommand .connect ++ [.rd .error]

/-- The word of the bytes 0 to 3 of `p`, byte 0 in bits 7:0; "absent bytes are 0" (R107). -/
def wordOfBytes (p : List Byte) : Word := p.getD 3 0 ++ p.getD 2 0 ++ p.getD 1 0 ++ p.getD 0 0

/-- `FRAMECFG` for `n` command bytes and expected length `e`: `(e << 8) | n` (R97). -/
def frameCfgOperand (n e : Nat) : Word := (BitVec.ofNat 32 e <<< 8) ||| BitVec.ofNat 32 n

/-- `SEND_CMD p0 .. p(n-1), e` (R97, R107): `PIDBUF1` is written only if `n > 4`. -/
def pseudoSendCmd (p : List Byte) (e : Nat) : List HostLine :=
  .wr .pidBuf0 (wordOfBytes p) :: (if 4 < p.length then [.wr .pidBuf1 (wordOfBytes (p.drop 4))] else [])
    ++ .wr .frameCfg (frameCfgOperand p.length e) :: runCommand .sendCmd ++ [.rd .error]

end Sys2Proof.Machine
end

