-- ==== Sys2Proof/Machine/Runs.lean ====
section
/-!
DEFINITION. Endless runs of the machine and what 00_scope.md R14 assumes of them: the weak fairness of the time base
and of the Serializer. A run is given with the moves the agents make in it, so that its fairness is a property of
those moves and of no value of `Config.freeEvent`.
-/
namespace Sys2Proof.Machine

/-- The agents make `moves` one after another from `s 0`, and `s` lists the states between them (R13, R251). -/
def IsRun (moves : Nat → Event) (s : Nat → State) : Prop := ∀ k, move (moves k) (s k) = .next (s (k + 1))

/-- The run of `step` itself: its moves are those that come next in each state. -/
def IsStepRun (s : Nat → State) : Prop := IsRun (fun k => nextEvent (s k)) s

/-- The Time base has an enabled step: the engine has none (R256) and `rst` is not asserted (R270). -/
def tickEnabled (s : State) : Bool := !s.rst && !engineEnabled s

/-- The move `e` takes a tick in `s` (R255). -/
def takesTick (e : Event) (s : State) : Bool := e == .tick && tickEnabled s

/-- R14: "a tick is always eventually taken". While `rst` is asserted no agent of the block steps (R270), so the
promise is put off, and a reset that comes again and again lifts it (DEDUCED, log 17; unsafe). -/
def TimeBaseFair (moves : Nat → Event) (s : Nat → State) : Prop :=
  ∀ k, ∃ j, k ≤ j ∧ (takesTick (moves j) (s j) = true ∨ (s j).rst = true)

/-- R14: "a full transmit buffer is always eventually emptied" (also R165, 93 I6). -/
def SerializerFair (s : Nat → State) : Prop := ∀ k, (s k).txFull = true → ∃ j, k ≤ j ∧ (s j).txFull = false

/-- The runs R14 speaks of. Nothing is assumed of the Line: in a fair run it may deliver nothing. -/
structure FairRun (moves : Nat → Event) (s : Nat → State) : Prop where
  /-- it is a run -/
  run : IsRun moves s
  /-- R14, the Time base -/
  timeBase : TimeBaseFair moves s
  /-- R14, the Serializer -/
  serializer : SerializerFair s

end Sys2Proof.Machine
end

