-- ==== Sys2Proof/Safety.lean ====
section
/-!
DEFINITION. What counts as a consistent machine: the invariant that every step keeps (log 18), in the words the
claims use, and which agent's step a move amounts to.
-/
namespace Sys2Proof.Machine

/-- The command whose hold point a phase is (R122, R182, R210); `none` for Idle and Start. -/
def Phase.owner : Phase → Option Instr
  | .idle => none
  | .start => none
  | .wakeCell => some .wakeup
  | .transmitTx => some .transmit
  | .receiveRx => some .receive
  | .connectIdle => some .connect
  | .connectCell => some .connect
  | .connectSync => some .connect
  | .connectKey1 => some .connect
  | .connectKey2 => some .connect
  | .connectW4 => some .connect
  | .connectTx => some .connect
  | .connectEcho => some .connect
  | .connectW5 => some .connect
  | .connectAck => some .connect
  | .sendGap => some .sendCmd
  | .sendSpacing => some .sendCmd
  | .sendTx => some .sendCmd
  | .sendEcho => some .sendCmd
  | .sendResp => some .sendCmd

/-- The hold points of a wake byte's cells (R152). -/
def Phase.isCell (p : Phase) : Bool := p == .wakeCell || p == .connectCell

/-- The hold points that exist only in GPIO mode: the idle wait of CONNECT step 1 and the cells (R153, R182). -/
def Phase.inGpio (p : Phase) : Bool := p.isCell || p == .connectIdle

/-- The hold points of CONNECT after its sync byte was accepted (R182, steps 4 to 6). -/
def Phase.afterSync (p : Phase) : Bool :=
  p == .connectKey1 || p == .connectKey2 || p == .connectW4 || p == .connectTx || p == .connectEcho
    || p == .connectW5 || p == .connectAck

/-- The hold points of SEND_CMD once its request frame stands in `locals` (R210). -/
def Phase.hasFrame (p : Phase) : Bool :=
  p == .sendSpacing || p == .sendTx || p == .sendEcho || p == .sendResp

/-- The hold points that are a `uart_rx()` (R130). -/
def Phase.isRx (p : Phase) : Bool :=
  p == .receiveRx || p == .connectSync || p == .connectKey1 || p == .connectKey2 || p == .connectEcho
    || p == .connectAck || p == .sendEcho || p == .sendResp

/-- The bytes on the wire and the byte in the transmit buffer that will follow them (R60, R163, R165). -/
def outgoing (s : State) : List Byte := s.wireTx ++ if s.txFull then [s.txReg] else []

/-- How many request bytes SEND_CMD has put into the transmit buffer (R210). -/
def bytesSent (s : State) : Nat :=
  match s.phase with
  | .sendSpacing | .sendTx => s.locals.idx
  | .sendEcho => s.locals.idx + 1
  | .sendResp => s.n + 4
  | _ => 0

/-- The invariant. -/
structure Inv (s : State) : Prop where
  /-- R120: running exactly when `phase` is not Idle -/
  busy_iff : s.busy = true ↔ s.phase ≠ .idle
  /-- R122: `phase` is a hold point of the command in `CMD` -/
  owner : ∀ i, s.phase.owner = some i → decode s.cmd = .command i
  /-- R26, R183: Initializing exists only inside CONNECT -/
  initializing : s.session = .initializing ↔ s.phase.owner = some .connect
  /-- R27, R193 -/
  ready_uart : s.session = .ready → s.lineMode = .uart
  /-- R25, R210, R220: a valid result exists only in Ready and not while SEND_CMD is under way -/
  valid_ready : s.resValid = true → s.session = .ready ∧ s.phase.owner ≠ some .sendCmd
  /-- R163, R169: a byte waits to be sent only in UART mode -/
  tx_uart : s.txFull = true → s.lineMode = .uart
  /-- R160, R165: the line is at 1 outside the cells of a wake byte -/
  line_high : s.phase.isCell = false → s.kline = true
  /-- R153 -/
  gpio_phases : s.phase.inGpio = true → s.lineMode = .gpio
  /-- R133, R182: every other hold point is in UART mode -/
  uart_phases : s.phase.owner ≠ none → s.phase.inGpio = false → s.lineMode = .uart
  /-- R133, R150 -/
  wake_session : s.phase = .wakeCell → s.session ≠ .ready
  /-- R152: the line shows the cell under way -/
  cells : s.phase.isCell = true → s.locals.idx ≤ 9 ∧ s.kline = wakeLevel s.cfg s.locals.idx
  /-- R182 step 3 -/
  sync_ok : s.phase.afterSync = true → s.keySync = s.cfg.syncByte
  /-- R187: the echo of step 5 is awaited only with `ACK_ECHO` -/
  echo_option : s.phase = .connectEcho → s.cfg.ackEcho = true
  /-- R133: SEND_CMD goes on only in Ready and with legal lengths -/
  send_ready : s.phase.owner = some .sendCmd → s.session = .ready ∧ lengthsLegal s.cfg s.n s.e = true
  /-- R100, R211: the frame under send is the request frame of the operands -/
  frame : s.phase.hasFrame = true → s.locals.frame = requestFrame s.cfg (pidBytes s.pidBuf s.n)
  /-- R210: the request index stays inside the frame -/
  request_idx : s.phase = .sendSpacing ∨ s.phase = .sendTx ∨ s.phase = .sendEcho → s.locals.idx ≤ s.n + 3
  /-- R211: the request bytes sent so far are the last bytes of the outgoing stream, in order -/
  sent : s.phase.hasFrame = true → (requestFrame s.cfg (pidBytes s.pidBuf s.n)).take (bytesSent s) <:+ outgoing s
  /-- R103, R210: every response byte taken so far passed its check -/
  response : s.phase = .sendResp → s.locals.idx = s.locals.received.length ∧ s.locals.idx ≤ 3 + s.n + s.e
    ∧ ∀ i, i < s.locals.idx → responseCheck s.cfg s.pidBuf s.n s.e i (s.locals.received.getD i 0) = none
  /-- R121, R162: the byte that was there at acceptance is still there at the first segment -/
  accepted_byte : s.phase = .start → s.rxAtAccept = true → s.rxFull = true
  /-- R270: while `rst` is asserted the block is at its reset values -/
  reset_held : s.rst = true → resetBlock s = s

/-- The move that comes next makes the engine take a step: the engine's own move, or a tick that waits for it
(R122, R256). -/
def engineMoves (s : State) : Bool :=
  !s.rst && engineEnabled s && (nextEvent s == .engine || nextEvent s == .tick)

end Sys2Proof.Machine
end

