-- ==== Sys2Proof/Certificates/Slice0/Obligations.lean ====
section
/-!
DEFINITION. The statements for the provers. Each docstring names the rule of spec/ it formalises; a clause that
rests on a choice of the model names its log entry.
-/

open Sys2Proof Sys2Proof.Machine

/-! ## Command words and their decoding (30_encoding.md) -/

/-- 30_encoding.md section 1: the seven command words of the opcode map, written out bit by bit, and words with a
reserved bit set or an unused opcode (95_test_vectors.md V-DEC-2 to V-DEC-6). -/
def Obligations.CommandWordsDecodeAsTheOpcodeMapSays : Prop :=
  decode 0b00000000000000000000000000000000#32 = .command .nop
    ∧ decode 0b00000000000000000000000000000001#32 = .command .wakeup
    ∧ decode 0b00000000000000000000000000000010#32 = .command .transmit
    ∧ decode 0b00000000000000000000000000000011#32 = .command .receive
    ∧ decode 0b00000000000000000000000000000100#32 = .command .connect
    ∧ decode 0b00000000000000000000000000000101#32 = .command .sendCmd
    ∧ decode 0b00000000000000000000000000000110#32 = .command .disconnect
    ∧ decode 0x00000007#32 = .illegal .unknownOpcode
    ∧ decode 0x000000FF#32 = .illegal .unknownOpcode
    ∧ decode 0x00000100#32 = .illegal .reservedBits
    ∧ decode 0x00000105#32 = .illegal .reservedBits
    ∧ decode 0x80000006#32 = .illegal .reservedBits
    ∧ decode 0xFFFFFFFF#32 = .illegal .reservedBits

/-- R94: every 32-bit word selects exactly one command or none: the word of a command and no other word decodes to
it, and the illegal words are those with `RSVD` /= 0 or `OPCODE` at or above 0x07. -/
def Obligations.EveryWordDecodesToOneCommandOrIsIllegal : Prop :=
  (encode .nop = 0x00000000 ∧ encode .wakeup = 0x00000001 ∧ encode .transmit = 0x00000002
      ∧ encode .receive = 0x00000003 ∧ encode .connect = 0x00000004 ∧ encode .sendCmd = 0x00000005
      ∧ encode .disconnect = 0x00000006)
    ∧ ∀ w : Word, w.toNat = 256 * (rsvdField w).toNat + (opcodeField w).toNat
      ∧ (∀ i, decode w = .command i ↔ w = encode i)
      ∧ ((∃ why, decode w = .illegal why) ↔ rsvdField w ≠ 0 ∨ 0x07 ≤ (opcodeField w).toNat)

/-- R97: the words a host writes for `send_command(p, e)` make SEND_CMD's operands `p` and `e` again. -/
def Obligations.SendCmdOperandWordsReadBackAsWritten : Prop :=
  ∀ (s : State) (p : List Byte) (e : Nat), p.length ≤ s.cfg.pidBufSize → p.length ≤ 8 → e ≤ 15 →
    let t := storeReg .frameCfg (frameCfgOperand p.length e)
      (storeReg .pidBuf1 (wordOfBytes (p.drop 4)) (storeReg .pidBuf0 (wordOfBytes p) s))
    t.n = p.length ∧ t.e = e ∧ pidBytes t.pidBuf t.n = p
      ∧ pseudoSendCmd [0x01, 0x0C] 2 = [.wr .pidBuf0 0x00000C01, .wr .frameCfg 0x00000202, .wr .cmd 0x00000005,
          .poll, .rd .error]

/-! ## Wire formats -/

/-- R100: the request frame byte by byte, its checksum the sum modulo 256 of all bytes before it, and the document's
example. -/
def Obligations.RequestFrameLayoutAndChecksum : Prop :=
  (∀ (c : Config) (p : List Byte),
    (requestFrame c p).length = p.length + 4
      ∧ (requestFrame c p).getD 0 0 = c.reqLenBase + BitVec.ofNat 8 p.length
      ∧ (requestFrame c p).getD 1 0 = c.dest
      ∧ (requestFrame c p).getD 2 0 = c.src
      ∧ (∀ j, j < p.length → (requestFrame c p).getD (3 + j) 0 = p.getD j 0)
      ∧ ((requestFrame c p).getD (3 + p.length) 0).toNat
          = (((requestFrame c p).take (3 + p.length)).map BitVec.toNat).sum % 256)
    ∧ (∀ p : List Byte, 1 ≤ p.length → p.length ≤ 8 →
        ((requestFrame Config.default p).getD 0 0).toNat = 0x66 + p.length)
    ∧ requestFrame Config.default [0x01, 0x0C] = [0x68, 0x6A, 0xF1, 0x01, 0x0C, 0xD0]

/-- R98: the ten bit cells of the wake byte. -/
def Obligations.WakeByteHasTenCellsLowBitFirst : Prop :=
  ∀ c : Config,
    (bitCells c.addrByte).length = 10 ∧ wakeLevel c 0 = false ∧ wakeLevel c 9 = true
      ∧ (∀ k, k < 8 → wakeLevel c (k + 1) = c.addrByte.getLsbD k)
      ∧ bitCells Config.default.addrByte
          = [false, true, true, false, false, true, true, false, false, true]

/-! ## The host register space -/

/-- R53: what reset leaves, in the registers the host reads and in the hidden state. -/
def Obligations.ResetLeavesTheStatedValues : Prop :=
  (∀ r : Reg, readReg State.reset r = if r = .status then 0x00000010 else 0x00000000)
    ∧ State.reset.busy = false ∧ State.reset.session = .disconnected ∧ State.reset.lineMode = .gpio
    ∧ State.reset.kline = true ∧ State.reset.txFull = false ∧ State.reset.rxFull = false
    ∧ State.reset.rxOverrun = false ∧ State.reset.resValid = false ∧ kaExpired State.reset = false
    ∧ State.reset.phase = .idle ∧ State.reset.txReg = 0 ∧ State.reset.rxReg = 0 ∧ State.reset.tCmdEnd = 0
    ∧ State.reset.locals = { t0 := 0, idx := 0, frame := [], received := [] }

/-- 10_state.md section 3, 43_session.md section 1 and 60_exceptions.md section 1: the values that encode the session
states, the line modes and the error kinds, the fields of every register but the buffers at their bits, and
`KA_EXPIRED` read as `ka_expired()` at the instant of the read. -/
def Obligations.RegisterFieldsStandAtTheirBits : Prop :=
  (Session.code .disconnected = 0 ∧ Session.code .initializing = 1 ∧ Session.code .ready = 2
      ∧ Session.code .faulted = 3 ∧ LineMode.code .gpio = 0 ∧ LineMode.code .uart = 1)
    ∧ (ErrorKind.code .none = 0x00 ∧ ErrorKind.code .handshakeFailure = 0x01
      ∧ ErrorKind.code .echoMismatch = 0x02 ∧ ErrorKind.code .frameLengthMismatch = 0x03
      ∧ ErrorKind.code .addressMismatch = 0x04 ∧ ErrorKind.code .commandEchoMismatch = 0x05
      ∧ ErrorKind.code .sessionExpired = 0x06 ∧ ErrorKind.code .notReady = 0x07
      ∧ ErrorKind.code .stateError = 0x08 ∧ ErrorKind.code .illegalCommand = 0x09
      ∧ ErrorKind.code .badLength = 0x0A ∧ ErrorKind.code .timeout = 0x0B
      ∧ ErrorKind.code .checksumMismatch = 0x0C)
    ∧ ∀ s : State,
    (readReg s .status).getLsbD 0 = s.busy
      ∧ (readReg s .status).extractLsb' 1 2 = s.session.code
      ∧ (readReg s .status).extractLsb' 3 1 = s.lineMode.code
      ∧ (readReg s .status).getLsbD 4 = s.kline
      ∧ (readReg s .status).getLsbD 5 = s.txFull
      ∧ (readReg s .status).getLsbD 6 = s.rxFull
      ∧ (readReg s .status).getLsbD 7 = s.rxOverrun
      ∧ (readReg s .status).getLsbD 8 = s.resValid
      ∧ (readReg s .status).getLsbD 9 = kaExpired s
      ∧ (readReg s .error).extractLsb' 0 8 = s.errKind.code
      ∧ (readReg s .error).extractLsb' 8 8 = s.errByte
      ∧ (readReg s .error).extractLsb' 16 8 = s.errPos
      ∧ (readReg s .keys).extractLsb' 0 8 = s.key1
      ∧ (readReg s .keys).extractLsb' 8 8 = s.key2
      ∧ (readReg s .keys).extractLsb' 16 8 = s.keySync
      ∧ (readReg s .frameCfg).extractLsb' 0 4 = s.cmdLen
      ∧ (readReg s .frameCfg).extractLsb' 8 4 = s.expLen
      ∧ (readReg s .rxCsum).extractLsb' 0 8 = s.csumReceived
      ∧ (readReg s .rxCsum).extractLsb' 8 8 = s.csumComputed
      ∧ (readReg s .txData).extractLsb' 0 8 = s.txData
      ∧ (readReg s .rxData).extractLsb' 0 8 = s.rxData
      ∧ readReg s .cmd = s.cmd ∧ readReg s .now = s.now ∧ readReg s .lastOk = s.lastOk

/-- R64, with R40's and R41's bytes above the buffer sizes reading 0: buffer byte `i` stands in the word at
`base + 4*(i div 4)` at bits `8*(i mod 4)+7` down to `8*(i mod 4)`, byte 0 is the first command byte, and a host
write to a `PIDBUF` word stores its bytes there. -/
def Obligations.BufferBytesArePackedLittleEndian : Prop :=
  ∀ (s : State) (i : Nat), i < 8 →
    (readReg s (regAt (BitVec.ofNat 32 (0x20 + 4 * (i / 4))))).extractLsb' (8 * (i % 4)) 8
        = (if i < s.cfg.pidBufSize then s.pidBuf.get i else 0)
      ∧ (readReg s (regAt (BitVec.ofNat 32 (0x28 + 4 * (i / 4))))).extractLsb' (8 * (i % 4)) 8
        = (if i < s.cfg.resBufSize then s.resBuf.get i else 0)
      ∧ (∀ n, i < n → (pidBytes s.pidBuf n).getD i 0 = s.pidBuf.get i)
      ∧ (∀ (v : Word) (k : Nat), k < 2 →
          (storeReg (if k = 0 then .pidBuf0 else .pidBuf1) v s).pidBuf.get i
            = if i / 4 = k ∧ i < s.cfg.pidBufSize then v.extractLsb' (8 * (i % 4)) 8 else s.pidBuf.get i)

/-- R66: a read inside the contract puts the register's value on the bus, every unlisted bit 0, and changes nothing
else. The register at each of the sixteen offsets is the one the register map lists there. -/
def Obligations.HostReadReturnsTheRegisterAndChangesNothing : Prop :=
  (regAt 0x00 = .cmd ∧ regAt 0x04 = .status ∧ regAt 0x08 = .error ∧ regAt 0x0C = .keys ∧ regAt 0x10 = .txData
      ∧ regAt 0x14 = .rxData ∧ regAt 0x18 = .frameCfg ∧ regAt 0x1C = .rxCsum ∧ regAt 0x20 = .pidBuf0
      ∧ regAt 0x24 = .pidBuf1 ∧ regAt 0x28 = .resBuf0 ∧ regAt 0x2C = .resBuf1 ∧ regAt 0x30 = .now
      ∧ regAt 0x34 = .lastOk ∧ regAt 0x38 = .reserved38 ∧ regAt 0x3C = .reserved3C)
    ∧ (∀ r : Reg, regAt r.offset = r ∧ r.offset.toNat ≤ 0x3C ∧ r.offset.toNat % 4 = 0)
    ∧ ∀ (s : State) (a : Word), s.rst = false → nextEvent s = .hostRead a → a.toNat % 4 = 0 → a.toNat ≤ 0x3C →
      step s = .next { popEvent s with busData := readReg s (regAt a) }
        ∧ (readReg s .status).extractLsb' 10 22 = 0 ∧ (readReg s .error).extractLsb' 24 8 = 0
        ∧ (readReg s .keys).extractLsb' 24 8 = 0 ∧ (readReg s .txData).extractLsb' 8 24 = 0
        ∧ (readReg s .rxData).extractLsb' 8 24 = 0 ∧ (readReg s .frameCfg).extractLsb' 4 4 = 0
        ∧ (readReg s .frameCfg).extractLsb' 12 20 = 0 ∧ (readReg s .rxCsum).extractLsb' 16 16 = 0
        ∧ readReg s .reserved38 = 0 ∧ readReg s .reserved3C = 0

/-- R67: what a write inside the contract does while no command runs, register by register, and that it does
nothing while one runs. -/
def Obligations.HostWriteStoresTheWritableFields : Prop :=
  ∀ (s : State) (r : Reg) (v : Word), s.rst = false → nextEvent s = .hostWrite r.offset v →
    (s.busy = true → step s = .next (popEvent s))
      ∧ (s.busy = false →
        (r = .cmd → step s = .next (accept v (popEvent s)))
        ∧ (r = .txData → step s = .next { popEvent s with txData := v.extractLsb' 0 8 })
        ∧ (r = .frameCfg →
            step s = .next { popEvent s with cmdLen := v.extractLsb' 0 4, expLen := v.extractLsb' 8 4 })
        ∧ (r = .pidBuf0 → step s = .next { popEvent s with pidBuf := storeWord s.cfg.pidBufSize s.pidBuf 0 v })
        ∧ (r = .pidBuf1 → step s = .next { popEvent s with pidBuf := storeWord s.cfg.pidBufSize s.pidBuf 1 v })
        ∧ (r ≠ .cmd → r ≠ .txData → r ≠ .frameCfg → r ≠ .pidBuf0 → r ≠ .pidBuf1 →
            step s = .next (popEvent s)))
      ∧ (r ≠ .cmd → writeReg r v (writeReg r v s) = writeReg r v s)

/-- 20_memory.md sections 1 and 2: an access that is not aligned is not admitted, and an offset that 6 bits do not
hold does not reach the block; the model refuses both by name (the model's choice for the second, log 8). -/
def Obligations.HostAccessOutsideTheContractIsRefused : Prop :=
  ∀ (s : State) (a v : Word), s.rst = false → nextEvent s = .hostRead a ∨ nextEvent s = .hostWrite a v →
    (0x40 ≤ a.toNat → step s = .refused .offsetOutsideSpace)
      ∧ (a.toNat < 0x40 → a.toNat % 4 ≠ 0 → step s = .refused .misalignedAccess)

/-- R44: while a command runs, no write changes the operands, and no other step but reset does. -/
def Obligations.OperandsHoldWhileACommandRuns : Prop :=
  (∀ (s : State) (r : Reg) (v : Word), s.rst = false → s.busy = true → nextEvent s = .hostWrite r.offset v →
    step s = .next (popEvent s))
    ∧ ∀ s t : State, s.busy = true → nextEvent s ≠ .rstAssert → step s = .next t →
      t.cmd = s.cmd ∧ t.txData = s.txData ∧ t.cmdLen = s.cmdLen ∧ t.expLen = s.expLen ∧ t.pidBuf = s.pidBuf

/-! ## The command engine (40_control.md) -/

/-- 40_control.md section 1: an engine step runs the command that stands in `CMD`. What step adds around exec is
that the engine's own move is used up, while a tick that waited for the engine stays pending (log 2, 3). -/
def Obligations.StepRunsTheDecodedCommand : Prop :=
  ∀ (s : State) (i : Instr), engineMoves s = true → decode s.cmd = .command i →
    step s = exec i (if nextEvent s = .engine then popEvent s else s)

/-- R121: a write to `CMD` while idle accepts the command in that one step, and its pseudocode begins at the next
engine step; a write while a command runs does nothing. (`rxAtAccept`, the model's own field, is set aside: log 10.) -/
def Obligations.WriteToCmdAcceptsACommand : Prop :=
  ∀ (s : State) (v : Word), s.rst = false → nextEvent s = .hostWrite 0x00 v →
    (s.busy = false →
      ∃ t, step s = .next t
        ∧ { t with rxAtAccept := s.rxAtAccept }
          = { popEvent s with cmd := v, busy := true, rxOverrun := false, phase := .start,
                              locals := { t0 := 0, idx := 0, frame := [], received := [] } }
        ∧ engineEnabled t = true ∧ ∀ i, decode v = .command i → engineStep t = exec i t)
      ∧ (s.busy = true → step s = .next (popEvent s))

/-- R131, R92: an illegal word is accepted like any other, stays in `CMD`, and ends at once with `IllegalCommand`;
nothing else changes. (`rxAtAccept`, the model's own field, is set aside: log 10.) -/
def Obligations.IllegalWordEndsWithIllegalCommand : Prop :=
  ∀ (s : State) (v : Word), rsvdField v ≠ 0 ∨ 0x07 ≤ (opcodeField v).toNat →
    (∃ t, engineStep (accept v s) = .next t
        ∧ { t with rxAtAccept := s.rxAtAccept } = { s with
          cmd := v, rxOverrun := false, errKind := .illegalCommand, errByte := 0, errPos := 0, phase := .idle,
          busy := false, locals := { t0 := 0, idx := 0, frame := [], received := [] } })
      ∧ readReg (illegalCommand (accept v s)) .error = 0x00000009

/-- R246: what `raise E(byte, pos)` writes, and that it ends the command. -/
def Obligations.RaiseRecordsTheErrorAndEndsTheCommand : Prop :=
  ∀ (k : ErrorKind) (byte pos : Byte) (s : State),
    raiseError k byte pos s = { s with errKind := k, errByte := byte, errPos := pos, phase := .idle, busy := false }
      ∧ readReg (raiseError k byte pos s) .error = 0#8 ++ pos ++ byte ++ k.code

/-- 40_control.md section 1 (segments): at a hold point of its command whose condition is false, the engine holds.
00_scope.md section 5: so it holds for ever in `uart_rx` with no time limit, whatever the other agents do, if the
line delivers nothing and reset does not come. -/
def Obligations.EngineHoldsWhileItsConditionIsFalse : Prop :=
  (∀ (i : Instr) (s : State), s.phase.owner = some i → holdReady s = false → exec i s = .next s)
    ∧ ∀ (moves : Nat → Event) (s : Nat → State) (k : Nat), IsRun moves s →
      (s k).phase.isRx = true → (s k).busy = true → (s k).rxFull = false → (s k).cfg.rxTimeout = 0 →
      (s k).rst = false → (∀ j, k ≤ j → moves j ≠ .rstAssert ∧ ∀ x, moves j ≠ .deliver x) →
      ∀ j, k ≤ j → (s j).phase = (s k).phase ∧ (s j).busy = true ∧ (s j).rxFull = false
        ∧ (s j).locals = (s k).locals

/-- R127: reaching a wait records the time, its condition is the elapsed time modulo 2^32, completing it has no
effect of its own; and a state that has just reached a wait of `n` ms, given that many ticks, takes exactly `n` of
them before the engine has a step. (The run is of ticks alone: the moves stand in `script`, and a tick waits for the
engine, log 2 and 3.) -/
def Obligations.WaitLastsExactlyItsTicks : Prop :=
  (∀ (p : Phase) (s : State), hold p s = { s with phase := p, locals := { s.locals with t0 := s.now } })
    ∧ (∀ (n : Nat) (s : State), waited n s = true ↔ n ≤ (s.now - s.locals.t0).toNat)
    ∧ (∀ (n : Nat) (k : State → State) (s : State), waited n s = true → onWait n k s = k s)
    ∧ ∀ (s : State) (n k : Nat) (rest : List Event),
    s.rst = false → s.busy = true → s.locals.t0 = s.now → n < 2 ^ 32 →
    ((s.phase = .wakeCell ∨ s.phase = .connectCell) ∧ n = s.cfg.tBit) ∨ (s.phase = .connectIdle ∧ n = s.cfg.tIdle)
      ∨ (s.phase = .connectW4 ∧ n = s.cfg.tW4) ∨ (s.phase = .connectW5 ∧ n = s.cfg.tW5)
      ∨ (s.phase = .sendSpacing ∧ n = s.cfg.tByte) →
    k ≤ n → s.script = List.replicate k .tick ++ rest →
    Host.Core.run core k s = .next { s with now := s.now + BitVec.ofNat 32 k, script := rest }
      ∧ engineEnabled { s with now := s.now + BitVec.ofNat 32 k, script := rest } = decide (k = n)

/-! ## Time -/

/-- R255: one tick adds one to `NOW`, modulo 2^32, and does nothing else; and `NOW` changes only by a tick and at
reset. -/
def Obligations.NowCountsTicks : Prop :=
  (∀ s : State, s.rst = false → nextEvent s = .tick → engineEnabled s = false →
    step s = .next { popEvent s with now := s.now + 1 } ∧ (s.now + 1).toNat = (s.now.toNat + 1) % 2 ^ 32)
    ∧ ∀ s t : State, step s = .next t →
      t.now = s.now ∨ (s.rst = false ∧ nextEvent s = .tick ∧ engineEnabled s = false ∧ t.now = s.now + 1)
        ∨ (s.rst = false ∧ nextEvent s = .rstAssert ∧ t.now = 0)

/-- 60_exceptions.md section 5, urgency: while the engine has an enabled step a tick is not taken; that step comes
first, time stands still and the tick stays pending (log 3). 00_scope.md section 5, fairness of the time base: in a
fair run time goes on from every state, by a tick that adds one, unless reset is asserted (log 17). -/
def Obligations.TickWaitsForTheEngine : Prop :=
  (∀ s : State, s.rst = false → nextEvent s = .tick → engineEnabled s = true →
    step s = engineStep s ∧ ∀ t, step s = .next t → t.now = s.now ∧ t.script = s.script ∧ t.draws = s.draws)
    ∧ ∀ (moves : Nat → Event) (s : Nat → State), FairRun moves s →
      ∀ k, ∃ j, k ≤ j ∧ ((s j).rst = true
        ∨ ((s j).now = (s k).now ∧ takesTick (moves j) (s j) = true ∧ (s (j + 1)).now = (s k).now + 1))

/-! ## NOP, DISCONNECT, WAKEUP -/

/-- R125: NOP, in every state, and with its acceptance. (`rxAtAccept`, the model's own field, is set aside there:
log 10.) -/
def Obligations.NopOnlyEndsAndClearsError : Prop :=
  encode .nop = 0x00000000 ∧ ∀ s : State,
    exec .nop s = .next { s with errKind := .none, errByte := 0, errPos := 0, phase := .idle, busy := false }
      ∧ ∃ t, exec .nop (accept 0x00000000 s) = .next t
        ∧ { t with rxAtAccept := s.rxAtAccept } = { s with
          cmd := 0x00000000, rxOverrun := false, errKind := .none, errByte := 0, errPos := 0, phase := .idle,
          busy := false, locals := { t0 := 0, idx := 0, frame := [], received := [] } }

/-- R192: DISCONNECT, in every state; a running command is not interrupted by it. -/
def Obligations.DisconnectReturnsToDisconnected : Prop :=
  encode .disconnect = 0x00000006 ∧ ∀ s : State,
    exec .disconnect s = .next { s with
        session := .disconnected, resValid := false, errKind := .none, errByte := 0, errPos := 0, phase := .idle,
        busy := false }
      ∧ (s.busy = true → writeReg .cmd 0x00000006 s = s)

/-- 40_control.md section 3: the preconditions of WAKEUP, TRANSMIT, RECEIVE, CONNECT and SEND_CMD, checked in the
first segment; the command that fails one ends with the named error and changes nothing else, but that SEND_CMD
has cleared `RES_VALID` (the model's reading of two rules that differ, log 11). -/
def Obligations.FailedPreconditionsEndWithTheirError : Prop :=
  ∀ s : State, s.phase = .start →
    (s.session ≠ .disconnected → s.session ≠ .faulted →
        exec .wakeup s = .next (raiseError .stateError 0 0 s))
      ∧ (s.lineMode = .gpio →
        exec .transmit s = .next (raiseError .stateError 0 0 s)
          ∧ exec .receive s = .next (raiseError .stateError 0 0 s))
      ∧ (s.session ≠ .disconnected → exec .connect s = .next (raiseError .stateError 0 0 s))
      ∧ (s.session ≠ .ready →
        exec .sendCmd s = .next (raiseError .notReady 0 0 { s with resValid := false }))
      ∧ (s.session = .ready → s.n < 1 ∨ s.cfg.pidBufSize < s.n ∨ s.cfg.resBufSize < s.e →
        exec .sendCmd s = .next (raiseError .badLength 0 0 { s with resValid := false }))

/-- R152: WAKEUP drives the ten cells in turn, each for `T_BIT_MS`, and ends with no error. -/
def Obligations.WakeupDrivesTenCellsThenEnds : Prop :=
  ∀ s : State,
    (wakeLevel s.cfg 0 = false ∧ (∀ k, k < 8 → wakeLevel s.cfg (k + 1) = s.cfg.addrByte.getLsbD k)
        ∧ wakeLevel s.cfg 9 = true)
      ∧ (s.phase = .wakeCell → elapsed s s.locals.t0 < s.cfg.tBit → exec .wakeup s = .next s)
      ∧ (s.phase = .start → s.session = .disconnected ∨ s.session = .faulted →
      exec .wakeup s = .next { s with
        lineMode := .gpio, txFull := false, kline := wakeLevel s.cfg 0, phase := .wakeCell,
        locals := { s.locals with idx := 0, t0 := s.now } })
      ∧ (s.phase = .wakeCell → s.cfg.tBit ≤ elapsed s s.locals.t0 → s.locals.idx < 9 →
      exec .wakeup s = .next { s with
        kline := wakeLevel s.cfg (s.locals.idx + 1),
        locals := { s.locals with idx := s.locals.idx + 1, t0 := s.now } })
      ∧ (s.phase = .wakeCell → s.cfg.tBit ≤ elapsed s s.locals.t0 → s.locals.idx = 9 →
      exec .wakeup s = .next { s with
        errKind := .none, errByte := 0, errPos := 0, phase := .idle, busy := false })

/-- 41_bitbang.md, the waveform of WAKEUP's body: from the state WAKEUP was accepted in, the line shows cell `k` from `k * T_BIT_MS` ticks
after the start until the next cell, and after ten cells the command has ended with the line at 1. (The run is of
ticks alone: the number of steps counts the engine's steps beside the ticks, log 2 and 3.) -/
def Obligations.WakeupWaveformOverTime : Prop :=
  ∀ (s : State) (rest : List Event) (k j : Nat),
    s.rst = false → s.busy = true → s.phase = .start → decode s.cmd = .command .wakeup →
    s.session = .disconnected ∨ s.session = .faulted → 1 ≤ s.cfg.tBit → s.cfg.tBit < 2 ^ 32 →
    (k ≤ 9 → j < s.cfg.tBit → s.script = List.replicate (k * s.cfg.tBit + j + 1) .tick ++ rest →
      ∃ t, Host.Core.run core (k * s.cfg.tBit + j + (k + 1)) s = .next t
        ∧ t.now = s.now + BitVec.ofNat 32 (k * s.cfg.tBit + j) ∧ t.kline = wakeLevel s.cfg k
        ∧ t.lineMode = .gpio ∧ t.busy = true)
      ∧ (s.script = List.replicate (10 * s.cfg.tBit + 1) .tick ++ rest →
      ∃ t, Host.Core.run core (10 * s.cfg.tBit + 11) s = .next t
        ∧ t.now = s.now + BitVec.ofNat 32 (10 * s.cfg.tBit) ∧ t.kline = true ∧ t.busy = false
        ∧ t.errKind = .none ∧ t.session = s.session)

/-! ## The transceiver (42_transceiver.md) -/

/-- R161: TRANSMIT. -/
def Obligations.TransmitBuffersItsByte : Prop :=
  encode .transmit = 0x00000002 ∧ ∀ s : State,
    (s.phase = .start → s.lineMode = .uart →
      exec .transmit s = .next { s with phase := .transmitTx, locals := { s.locals with t0 := s.now } })
      ∧ (s.phase = .start → s.lineMode ≠ .uart → exec .transmit s = .next { s with
          errKind := .stateError, errByte := 0, errPos := 0, phase := .idle, busy := false })
      ∧ (s.phase = .transmitTx → s.txFull = true → exec .transmit s = .next s)
      ∧ (s.phase = .transmitTx → s.txFull = false → exec .transmit s = .next { s with
          txReg := s.txData, txFull := true, errKind := .none, errByte := 0, errPos := 0, phase := .idle,
          busy := false })

/-- 42_transceiver.md section 1: RECEIVE. A byte that was there when it was accepted is returned at the first engine
step; with none there then, the first segment ends at the hold point (the model's reading of two rules, log 10). So
it is when that segment follows the acceptance at once, and when other moves come between, for `rxAtAccept` keeps what
the acceptance saw. -/
def Obligations.ReceiveReturnsTheByte : Prop :=
  encode .receive = 0x00000003 ∧ ∀ s : State,
    (s.lineMode = .uart → s.rxFull = true → exec .receive (accept 0x00000003 s) = .next { s with
        cmd := 0x00000003, rxOverrun := false, rxData := s.rxReg, rxFull := false, errKind := .none, errByte := 0,
        errPos := 0, phase := .idle, busy := false, rxAtAccept := true,
        locals := { t0 := s.now, idx := 0, frame := [], received := [] } })
      ∧ (s.lineMode = .uart → s.rxFull = false → exec .receive (accept 0x00000003 s) = .next { s with
        cmd := 0x00000003, rxOverrun := false, phase := .receiveRx, busy := true, rxAtAccept := false,
        locals := { t0 := s.now, idx := 0, frame := [], received := [] } })
      ∧ (s.phase = .start → s.lineMode = .uart → s.rxAtAccept = true → s.rxFull = true → exec .receive s = .next { s with
        rxData := s.rxReg, rxFull := false, errKind := .none, errByte := 0, errPos := 0, phase := .idle,
        busy := false, locals := { s.locals with t0 := s.now } })
      ∧ (s.phase = .start → s.lineMode = .uart → s.rxAtAccept = false ∨ s.rxFull = false →
        exec .receive s = .next { s with phase := .receiveRx, locals := { s.locals with t0 := s.now } })
      ∧ (s.phase = .start → s.lineMode ≠ .uart → exec .receive s = .next { s with
          errKind := .stateError, errByte := 0, errPos := 0, phase := .idle, busy := false })
      ∧ (s.phase = .receiveRx → s.rxFull = true → exec .receive s = .next { s with
          rxData := s.rxReg, rxFull := false, errKind := .none, errByte := 0, errPos := 0, phase := .idle,
          busy := false })
      ∧ (s.phase = .receiveRx → s.rxFull = false → 0 < s.cfg.rxTimeout →
          s.cfg.rxTimeout ≤ elapsed s s.locals.t0 → exec .receive s = .next { s with
          errKind := .timeout, errByte := 0, errPos := 0, phase := .idle, busy := false })
      ∧ (s.phase = .receiveRx → s.rxFull = false →
          s.cfg.rxTimeout = 0 ∨ elapsed s s.locals.t0 < s.cfg.rxTimeout → exec .receive s = .next s)

/-- 42_transceiver.md section 2: the Serializer's step, that it has none when the buffer is empty or the line is in
GPIO mode, that nothing else puts a byte on the wire, and that the line reads 1 in UART mode. 00_scope.md section 5,
fairness of the Serializer: in a fair run every buffered byte stays until it goes on the wire, and goes there, unless
entering GPIO mode or reset discards it (log 17). -/
def Obligations.WireCarriesWhatTheSerializerEmits : Prop :=
  (∀ s : State, s.rst = false → nextEvent s = .serialize →
    (s.txFull = true → s.lineMode = .uart →
      step s = .next { popEvent s with wireTx := s.wireTx ++ [s.txReg], txFull := false })
      ∧ (s.txFull = false ∨ s.lineMode = .gpio → step s = .next (popEvent s)))
    ∧ (∀ s t : State, Inv s → step s = .next t →
      (t.wireTx = s.wireTx ∨ (t.wireTx = s.wireTx ++ [s.txReg] ∧ s.txFull = true ∧ s.lineMode = .uart
        ∧ s.rst = false ∧ nextEvent s = .serialize ∧ t.txFull = false))
        ∧ (t.lineMode = .uart → t.kline = true))
    ∧ ∀ (moves : Nat → Event) (s : Nat → State), FairRun moves s → ∀ k, (s k).txFull = true →
      ∃ j, k ≤ j ∧ (∀ i, k ≤ i → i ≤ j → (s i).txFull = true ∧ (s i).txReg = (s k).txReg)
        ∧ (s (j + 1)).txFull = false
        ∧ ((moves j = .serialize ∧ (s (j + 1)).wireTx = (s j).wireTx ++ [(s k).txReg])
          ∨ (s (j + 1)).lineMode = .gpio)

/-- R166: the Line's step: discarded in GPIO mode, buffered, or an overrun under either policy. -/
def Obligations.LineDeliveryAndOverrun : Prop :=
  ∀ (s : State) (x : Byte), s.rst = false → nextEvent s = .deliver x →
    (s.lineMode = .gpio → step s = .next (popEvent s))
      ∧ (s.lineMode = .uart → s.rxFull = false →
          step s = .next { popEvent s with rxReg := x, rxFull := true })
      ∧ (s.lineMode = .uart → s.rxFull = true → s.cfg.overrunPolicy = .dropNew →
          step s = .next { popEvent s with rxOverrun := true })
      ∧ (s.lineMode = .uart → s.rxFull = true → s.cfg.overrunPolicy = .dropOld →
          step s = .next { popEvent s with rxOverrun := true, rxReg := x })

/-- R163, R164: what fills and what empties the two one-byte buffers, reset aside (R270). -/
def Obligations.BuffersFillAndEmptyOnlyAsStated : Prop :=
  ∀ s t : State, Inv s → nextEvent s ≠ .rstAssert → step s = .next t →
    (s.txFull = false → t.txFull = true → engineMoves s = true
        ∧ (s.phase = .transmitTx ∨ s.phase = .connectTx ∨ s.phase = .sendTx))
      ∧ (s.txFull = true → t.txFull = false → (s.rst = false ∧ nextEvent s = .serialize)
        ∨ (engineMoves s = true ∧ s.phase = .start ∧ t.lineMode = .gpio))
      ∧ (s.rxFull = false → t.rxFull = true → s.rst = false ∧ ∃ x, nextEvent s = .deliver x ∧ t.rxReg = x)
      ∧ (s.rxFull = true → t.rxFull = false → engineMoves s = true
        ∧ ((s.phase = .connectCell ∧ t.lineMode = .uart)
          ∨ (s.lineMode = .uart ∧ (s.phase = .receiveRx ∨ (s.phase = .start ∧ decode s.cmd = .command .receive)
            ∨ s.phase = .connectSync ∨ s.phase = .connectKey1 ∨ s.phase = .connectKey2 ∨ s.phase = .connectEcho
            ∨ s.phase = .connectAck ∨ s.phase = .sendEcho ∨ s.phase = .sendResp))))

/-- R160: the two mode switches, and that nothing else but reset changes the mode. -/
def Obligations.LineModeChangesOnlyAsStated : Prop :=
  (∀ s : State, enterGpio s = { s with lineMode := .gpio, txFull := false }
    ∧ enterUart s = { s with lineMode := .uart, rxFull := false, kline := true })
    ∧ ∀ s t : State, Inv s → step s = .next t → t.lineMode ≠ s.lineMode →
      (engineMoves s = true ∧ s.phase = .start ∧ t.lineMode = .gpio
          ∧ (decode s.cmd = .command .wakeup ∨ decode s.cmd = .command .connect))
        ∨ (engineMoves s = true ∧ s.phase = .connectCell ∧ t.lineMode = .uart)
        ∨ (nextEvent s = .rstAssert ∧ t.lineMode = .gpio)

/-- R25 (`RX_OVERRUN`), R167: the flag is set only by a delivery to a full buffer and cleared only by accepting a
command, or at reset. -/
def Obligations.OverrunFlagIsStickyUntilAccept : Prop :=
  ∀ s t : State, step s = .next t → t.rxOverrun ≠ s.rxOverrun →
    (t.rxOverrun = true ∧ s.rxFull = true ∧ s.lineMode = .uart ∧ s.rst = false ∧ ∃ x, nextEvent s = .deliver x)
      ∨ (t.rxOverrun = false ∧ s.rst = false ∧ s.busy = false ∧ ∃ a v, nextEvent s = .hostWrite a v ∧ t.cmd = v)
      ∨ (t.rxOverrun = false ∧ s.rst = false ∧ nextEvent s = .rstAssert)

/-! ## CONNECT (43_session.md section 2) -/

/-- 43_session.md section 2, steps 1 to 3: from Disconnected, the idle line; after the idle time the ten cells; then
UART mode with an empty receive buffer. -/
def Obligations.ConnectWakesTheVehicleThenEntersUart : Prop :=
  ∀ s : State,
    (s.phase = .start → s.session = .disconnected →
      exec .connect s = .next { s with
        session := .initializing, lineMode := .gpio, txFull := false, kline := true, phase := .connectIdle,
        locals := { s.locals with t0 := s.now } })
      ∧ (s.phase = .connectIdle → s.cfg.tIdle ≤ elapsed s s.locals.t0 →
      exec .connect s = .next { s with
        kline := wakeLevel s.cfg 0, phase := .connectCell, locals := { s.locals with idx := 0, t0 := s.now } })
      ∧ (s.phase = .connectCell → s.cfg.tBit ≤ elapsed s s.locals.t0 → s.locals.idx < 9 →
        exec .connect s = .next { s with
          kline := wakeLevel s.cfg (s.locals.idx + 1),
          locals := { s.locals with idx := s.locals.idx + 1, t0 := s.now } })
      ∧ (s.phase = .connectCell → s.cfg.tBit ≤ elapsed s s.locals.t0 → s.locals.idx = 9 →
        exec .connect s = .next { s with
          lineMode := .uart, rxFull := false, kline := true, phase := .connectSync,
          locals := { s.locals with t0 := s.now } })

/-- 43_session.md section 2, step 3: the sync byte is stored; any other than `SYNC_BYTE` ends in Faulted before a
key byte is taken. -/
def Obligations.ConnectChecksTheSyncByte : Prop :=
  ∀ s : State, s.phase = .connectSync → s.rxFull = true →
    (s.rxReg = s.cfg.syncByte →
      exec .connect s = .next { s with
        rxFull := false, keySync := s.rxReg, phase := .connectKey1, locals := { s.locals with t0 := s.now } })
      ∧ (s.rxReg ≠ s.cfg.syncByte →
        exec .connect s = .next { s with
          rxFull := false, keySync := s.rxReg, session := .faulted, errKind := .handshakeFailure,
          errByte := s.rxReg, errPos := 3, phase := .idle, busy := false })

/-- R184: the key bytes are stored whatever they are, and only steps 3 and 6, and 5 with `ACK_ECHO`, find an
unexpected byte. -/
def Obligations.ConnectStoresKeyBytesUnchecked : Prop :=
  (∀ s : State, s.rxFull = true →
    (s.phase = .connectKey1 → exec .connect s = .next { s with
        rxFull := false, key1 := s.rxReg, phase := .connectKey2, locals := { s.locals with t0 := s.now } })
      ∧ (s.phase = .connectKey2 → exec .connect s = .next { s with
        rxFull := false, key2 := s.rxReg, phase := .connectW4, locals := { s.locals with t0 := s.now } }))
    ∧ ∀ s t : State, s.busy = true → exec .connect s = .next t → t.busy = false →
      t.errKind = .handshakeFailure →
      s.phase = .connectSync ∨ (s.phase = .connectEcho ∧ (Inv s → s.cfg.ackEcho = true)) ∨ s.phase = .connectAck

/-- 43_session.md section 2, step 5: after `T_W4_MS` the complement of key byte 2 goes into the transmit buffer;
the echo is taken only with `ACK_ECHO`. -/
def Obligations.ConnectAnswersWithComplementOfKey2 : Prop :=
  ∀ s : State,
    (s.phase = .connectW4 → s.cfg.tW4 ≤ elapsed s s.locals.t0 →
      exec .connect s = .next { s with phase := .connectTx, locals := { s.locals with t0 := s.now } })
      ∧ (s.phase = .connectTx → s.txFull = false →
        exec .connect s = .next { s with
          txReg := ~~~s.key2, txFull := true, phase := if s.cfg.ackEcho then .connectEcho else .connectW5,
          locals := { s.locals with t0 := s.now } })
      ∧ (s.phase = .connectEcho → s.rxFull = true → s.rxReg = ~~~s.key2 →
        exec .connect s = .next { s with
          rxFull := false, phase := .connectW5, locals := { s.locals with t0 := s.now } })
      ∧ (s.phase = .connectEcho → s.rxFull = true → s.rxReg ≠ ~~~s.key2 →
        exec .connect s = .next { s with
          rxFull := false, session := .faulted, errKind := .handshakeFailure, errByte := s.rxReg, errPos := 5,
          phase := .idle, busy := false })

/-- 43_session.md section 2, steps 6 and 7: after `T_W5_MS` the final byte decides; Ready records the time. -/
def Obligations.ConnectEndsReadyOnTheFinalByte : Prop :=
  ∀ s : State,
    (s.phase = .connectW5 → s.cfg.tW5 ≤ elapsed s s.locals.t0 →
      exec .connect s = .next { s with phase := .connectAck, locals := { s.locals with t0 := s.now } })
      ∧ (s.phase = .connectAck → s.rxFull = true → s.rxReg = ~~~s.cfg.addrByte →
        exec .connect s = .next { s with
          rxFull := false, session := .ready, lastOk := s.now, tCmdEnd := s.now, errKind := .none, errByte := 0,
          errPos := 0, phase := .idle, busy := false })
      ∧ (s.phase = .connectAck → s.rxFull = true → s.rxReg ≠ ~~~s.cfg.addrByte →
        exec .connect s = .next { s with
          rxFull := false, session := .faulted, errKind := .handshakeFailure, errByte := s.rxReg, errPos := 6,
          phase := .idle, busy := false })

/-- 43_session.md section 2 and 60_exceptions.md section 1: with `RX_TIMEOUT_MS` > 0 each receive of CONNECT that
runs out of time ends in Faulted with the step's number; with `RX_TIMEOUT_MS` = 0 it holds. -/
def Obligations.ConnectReceiveTimesOutWithItsStep : Prop :=
  ∀ (s : State) (pos : Byte), s.rxFull = false →
    (s.phase = .connectSync ∧ pos = 3) ∨ (s.phase = .connectKey1 ∧ pos = 4) ∨ (s.phase = .connectKey2 ∧ pos = 4)
      ∨ (s.phase = .connectEcho ∧ pos = 5) ∨ (s.phase = .connectAck ∧ pos = 6) →
    (0 < s.cfg.rxTimeout → s.cfg.rxTimeout ≤ elapsed s s.locals.t0 →
      exec .connect s = .next { s with
        session := .faulted, errKind := .timeout, errByte := 0, errPos := pos, phase := .idle, busy := false })
      ∧ (s.cfg.rxTimeout = 0 → exec .connect s = .next s)

/-- 43_session.md section 2 (timeline): from its acceptance CONNECT is in UART mode and waits for the sync byte
after exactly `T_IDLE_MS + 10 * T_BIT_MS` ticks: it has just reached that hold point, at which `t0` is `NOW`. (The run is of ticks alone: the number of steps counts the engine's
twelve steps beside the ticks, log 2 and 3.) -/
def Obligations.ConnectReachesUartOnTime : Prop :=
  ∀ (s : State) (rest : List Event),
    s.rst = false → s.busy = true → s.phase = .start → decode s.cmd = .command .connect →
    s.session = .disconnected → s.cfg.legal = true →
    s.script = List.replicate (s.cfg.tIdle + 10 * s.cfg.tBit + 1) .tick ++ rest →
    ∃ t, Host.Core.run core (s.cfg.tIdle + 10 * s.cfg.tBit + 12) s = .next t
      ∧ t.now = s.now + BitVec.ofNat 32 (s.cfg.tIdle + 10 * s.cfg.tBit) ∧ t.phase = .connectSync
      ∧ t.locals.t0 = t.now ∧ t.lineMode = .uart ∧ t.rxFull = false ∧ t.session = .initializing ∧ t.busy = true ∧ t.wireTx = s.wireTx

/-! ## SEND_CMD (44_frame_codec.md) -/

/-- 44_frame_codec.md, R210's first lines and R214: SEND_CMD begins with the inter-request gap, is held until
`T_REQ_MS` ticks after `t_cmd_end`, and then has the request frame of its operands under send. -/
def Obligations.SendCmdKeepsTheInterRequestGap : Prop :=
  ∀ s : State,
    (s.phase = .start → s.session = .ready → 1 ≤ s.n → s.n ≤ s.cfg.pidBufSize → s.e ≤ s.cfg.resBufSize →
      exec .sendCmd s = .next { s with
        resValid := false, phase := .sendGap, locals := { s.locals with t0 := s.now } })
      ∧ (s.phase = .sendGap → elapsed s s.tCmdEnd < s.cfg.tReq → exec .sendCmd s = .next s)
      ∧ (s.phase = .sendGap → s.cfg.tReq ≤ elapsed s s.tCmdEnd →
          elapsed s s.lastOk ≤ s.cfg.tKa →
        exec .sendCmd s = .next { s with
          phase := .sendTx,
          locals := { s.locals with
            t0 := s.now, idx := 0, frame := requestFrame s.cfg (pidBytes s.pidBuf s.n) } })

/-- R190: the keep-alive ceiling, checked after the gap and before the first byte. -/
def Obligations.SendCmdReportsSessionExpired : Prop :=
  (∀ s : State, kaExpired s = true ↔ s.session = .ready ∧ s.cfg.tKa < (s.now - s.lastOk).toNat)
    ∧ ∀ s : State, s.phase = .sendGap → s.cfg.tReq ≤ elapsed s s.tCmdEnd →
      (kaExpired s = true → exec .sendCmd s = .next { s with
          session := .faulted, tCmdEnd := s.now, errKind := .sessionExpired, errByte := 0, errPos := 0,
          phase := .idle, busy := false })
        ∧ (kaExpired s = false → ∃ t, exec .sendCmd s = .next t ∧ t.phase = .sendTx ∧ t.session = s.session
          ∧ t.txFull = s.txFull)

/-- R212, R213: each request byte is buffered, its echo must equal it, `T_BYTE_MS` ticks pass before the next (none
before byte 0 and none after the last echo), and a wrong echo ends the command. -/
def Obligations.SendCmdConfirmsEveryEcho : Prop :=
  ∀ s : State,
    (s.phase = .sendTx → s.txFull = false → exec .sendCmd s = .next { s with
        txReg := s.locals.frame.getD s.locals.idx 0, txFull := true, phase := .sendEcho,
        locals := { s.locals with t0 := s.now } })
      ∧ (s.phase = .sendEcho → s.rxFull = true → s.rxReg = s.locals.frame.getD s.locals.idx 0 →
          s.locals.idx < s.n + 3 → exec .sendCmd s = .next { s with
        rxFull := false, phase := .sendSpacing,
        locals := { s.locals with t0 := s.now, idx := s.locals.idx + 1 } })
      ∧ (s.phase = .sendEcho → s.rxFull = true → s.rxReg = s.locals.frame.getD s.locals.idx 0 →
          s.locals.idx = s.n + 3 → exec .sendCmd s = .next { s with
        rxFull := false, phase := .sendResp,
        locals := { s.locals with t0 := s.now, idx := 0, received := [] } })
      ∧ (s.phase = .sendEcho → s.rxFull = true → s.rxReg ≠ s.locals.frame.getD s.locals.idx 0 →
        exec .sendCmd s = .next { s with
          rxFull := false, tCmdEnd := s.now, errKind := .echoMismatch, errByte := s.rxReg,
          errPos := BitVec.ofNat 8 s.locals.idx, phase := .idle, busy := false })
      ∧ (s.phase = .sendSpacing → s.cfg.tByte ≤ elapsed s s.locals.t0 →
        exec .sendCmd s = .next { s with phase := .sendTx, locals := { s.locals with t0 := s.now } })
      ∧ (s.phase = .sendSpacing → elapsed s s.locals.t0 < s.cfg.tByte → exec .sendCmd s = .next s)
      ∧ (s.phase = .sendGap → s.cfg.tReq ≤ elapsed s s.tCmdEnd → kaExpired s = false →
        ∃ t, exec .sendCmd s = .next t ∧ t.phase = .sendTx ∧ t.locals.idx = 0)

/-- R215, R216, R217, R218: each response byte before the checksum byte: the check it must pass, the error it ends
with, or that it is taken and the next one awaited. -/
def Obligations.SendCmdChecksEachResponseByte : Prop :=
  ∀ s : State, s.phase = .sendResp → s.rxFull = true → s.locals.idx < 3 + s.n + s.e →
    let failed := fun k : ErrorKind => Host.Outcome.next (φ := Fault) (ρ := Refusal) { s with
      rxFull := false, tCmdEnd := s.now, errKind := k, errByte := s.rxReg,
      errPos := BitVec.ofNat 8 s.locals.idx, phase := .idle, busy := false }
    let taken := Host.Outcome.next (φ := Fault) (ρ := Refusal) { s with
      rxFull := false, locals := { s.locals with
        t0 := s.now, idx := s.locals.idx + 1, received := s.locals.received ++ [s.rxReg] } }
    (s.locals.idx = 0 → exec .sendCmd s
        = if s.rxReg.toNat = s.cfg.respLenBase.toNat + s.n + s.e then taken else failed .frameLengthMismatch)
      ∧ (s.locals.idx = 1 → exec .sendCmd s
        = if s.rxReg = s.cfg.respDest then taken else failed .addressMismatch)
      ∧ (s.locals.idx = 2 → exec .sendCmd s
        = if s.rxReg = s.cfg.respSrc then taken else failed .addressMismatch)
      ∧ (∀ j, s.locals.idx = 3 + j → j < s.n → exec .sendCmd s
        = if s.rxReg = s.pidBuf.get j then taken else failed .commandEchoMismatch)
      ∧ (3 + s.n ≤ s.locals.idx → exec .sendCmd s = taken)

/-- R219: the checksum byte is recorded and, by default, not compared; the command then commits the result, its
validity and the times, all together. -/
def Obligations.SendCmdCommitsTheResult : Prop :=
  ∀ s : State, s.phase = .sendResp → s.rxFull = true → s.locals.idx = 3 + s.n + s.e →
    (s.cfg.verifyRxChecksum = false ∨ s.rxReg = checksum s.locals.received →
      exec .sendCmd s = .next { s with
        rxFull := false, csumReceived := s.rxReg, csumComputed := checksum s.locals.received,
        resBuf := Buf8.ofFn fun k =>
          if k < s.e then ((s.locals.received.drop (3 + s.n)).take s.e).getD k 0 else s.resBuf.get k,
        resValid := true, lastOk := s.now, tCmdEnd := s.now, errKind := .none, errByte := 0, errPos := 0,
        phase := .idle, busy := false })
      ∧ (s.cfg.verifyRxChecksum = true → s.rxReg ≠ checksum s.locals.received →
        exec .sendCmd s = .next { s with
          rxFull := false, csumReceived := s.rxReg, csumComputed := checksum s.locals.received,
          tCmdEnd := s.now, errKind := .checksumMismatch, errByte := s.rxReg,
          errPos := BitVec.ofNat 8 (3 + s.n + s.e), phase := .idle, busy := false })

/-- 60_exceptions.md section 1 and 44_frame_codec.md: SEND_CMD's receives that run out of time record the request
byte's index, or 0x80 plus the response byte's; the session stays. -/
def Obligations.SendCmdReceiveTimesOutWithItsPosition : Prop :=
  ∀ s : State, s.rxFull = false → 0 < s.cfg.rxTimeout → s.cfg.rxTimeout ≤ elapsed s s.locals.t0 →
    (s.phase = .sendEcho → exec .sendCmd s = .next { s with
        tCmdEnd := s.now, errKind := .timeout, errByte := 0, errPos := BitVec.ofNat 8 s.locals.idx,
        phase := .idle, busy := false })
      ∧ (s.phase = .sendResp → exec .sendCmd s = .next { s with
        tCmdEnd := s.now, errKind := .timeout, errByte := 0, errPos := BitVec.ofNat 8 (0x80 + s.locals.idx),
        phase := .idle, busy := false })

/-! ## Frames: what a command leaves unchanged -/

/-- 44_frame_codec.md: SEND_CMD, in whatever segment, leaves every other register, the ports and the time as they
were; the results only at its success. -/
def Obligations.SendCmdFrame : Prop :=
  ∀ s t : State, exec .sendCmd s = .next t →
    t.cfg = s.cfg ∧ t.cmd = s.cmd ∧ t.lineMode = s.lineMode ∧ t.kline = s.kline ∧ t.rxOverrun = s.rxOverrun
      ∧ t.keySync = s.keySync ∧ t.key1 = s.key1 ∧ t.key2 = s.key2 ∧ t.txData = s.txData ∧ t.rxData = s.rxData
      ∧ t.cmdLen = s.cmdLen ∧ t.expLen = s.expLen ∧ t.pidBuf = s.pidBuf ∧ t.now = s.now ∧ t.rxReg = s.rxReg
      ∧ t.rst = s.rst ∧ t.wireTx = s.wireTx ∧ t.busData = s.busData ∧ t.script = s.script ∧ t.draws = s.draws
      ∧ t.rxAtAccept = s.rxAtAccept
      ∧ (t.session = s.session ∨ (s.phase = .sendGap ∧ t.session = .faulted))
      ∧ (s.phase ≠ .sendResp → t.resBuf = s.resBuf ∧ t.lastOk = s.lastOk ∧ t.csumReceived = s.csumReceived
          ∧ t.csumComputed = s.csumComputed)
      ∧ (s.phase ≠ .sendTx → t.txReg = s.txReg ∧ t.txFull = s.txFull)
      ∧ (s.phase ≠ .sendEcho → s.phase ≠ .sendResp → t.rxFull = s.rxFull)
      ∧ (s.phase ≠ .idle → s.phase ≠ .start → s.phase ≠ .sendResp → t.resValid = s.resValid)
      ∧ (t.busy = s.busy ∨ t.busy = false)
      ∧ (t.busy = true → t.errKind = s.errKind ∧ t.errByte = s.errByte ∧ t.errPos = s.errPos
          ∧ t.tCmdEnd = s.tCmdEnd)

/-- 43_session.md section 2 (flags written): CONNECT, in whatever segment, leaves every other register, the ports
and the time as they were. -/
def Obligations.ConnectFrame : Prop :=
  ∀ s t : State, exec .connect s = .next t →
    t.cfg = s.cfg ∧ t.cmd = s.cmd ∧ t.rxOverrun = s.rxOverrun ∧ t.resValid = s.resValid ∧ t.txData = s.txData
      ∧ t.rxData = s.rxData ∧ t.cmdLen = s.cmdLen ∧ t.expLen = s.expLen ∧ t.csumReceived = s.csumReceived
      ∧ t.csumComputed = s.csumComputed ∧ t.pidBuf = s.pidBuf ∧ t.resBuf = s.resBuf ∧ t.now = s.now
      ∧ t.rxReg = s.rxReg ∧ t.rst = s.rst ∧ t.wireTx = s.wireTx ∧ t.busData = s.busData ∧ t.script = s.script
      ∧ t.draws = s.draws ∧ t.rxAtAccept = s.rxAtAccept
      ∧ (s.phase ≠ .connectAck → t.lastOk = s.lastOk ∧ t.tCmdEnd = s.tCmdEnd)
      ∧ (t.key1 ≠ s.key1 → s.phase = .connectKey1) ∧ (t.key2 ≠ s.key2 → s.phase = .connectKey2)
      ∧ (t.keySync ≠ s.keySync → s.phase = .connectSync) ∧ (s.phase ≠ .connectTx → t.txReg = s.txReg)
      ∧ (t.rxFull = true → s.rxFull = true) ∧ (t.busy = s.busy ∨ t.busy = false)
      ∧ (t.busy = true → t.errKind = s.errKind ∧ t.errByte = s.errByte ∧ t.errPos = s.errPos)

/-- 41_bitbang.md and 42_transceiver.md (flags written), 43_session.md section 4: NOP, WAKEUP, TRANSMIT, RECEIVE and
DISCONNECT leave every other register, the ports and the time as they were. -/
def Obligations.ShortCommandsFrame : Prop :=
  ∀ (i : Instr) (s t : State), i ≠ .connect → i ≠ .sendCmd → exec i s = .next t →
    t.cfg = s.cfg ∧ t.cmd = s.cmd ∧ t.rxOverrun = s.rxOverrun ∧ t.keySync = s.keySync ∧ t.key1 = s.key1
      ∧ t.key2 = s.key2 ∧ t.txData = s.txData ∧ t.cmdLen = s.cmdLen ∧ t.expLen = s.expLen
      ∧ t.csumReceived = s.csumReceived ∧ t.csumComputed = s.csumComputed ∧ t.pidBuf = s.pidBuf
      ∧ t.resBuf = s.resBuf ∧ t.now = s.now ∧ t.lastOk = s.lastOk ∧ t.tCmdEnd = s.tCmdEnd ∧ t.rst = s.rst
      ∧ t.wireTx = s.wireTx ∧ t.busData = s.busData ∧ t.script = s.script ∧ t.draws = s.draws ∧ t.rxReg = s.rxReg
      ∧ t.rxAtAccept = s.rxAtAccept
      ∧ (i ≠ .disconnect → t.session = s.session ∧ t.resValid = s.resValid)
      ∧ (i ≠ .wakeup → t.lineMode = s.lineMode ∧ t.kline = s.kline)
      ∧ (i ≠ .receive → t.rxFull = s.rxFull ∧ t.rxData = s.rxData)
      ∧ (i ≠ .transmit → t.txReg = s.txReg ∧ (i ≠ .wakeup → t.txFull = s.txFull))
      ∧ (t.busy = true → t.errKind = s.errKind ∧ t.errByte = s.errByte ∧ t.errPos = s.errPos)

/-! ## Reset -/

/-- 70_reset_and_hazards.md section 1: asserting `rst` puts every piece of the block's state at its reset value in
one step, abandoning a command; while it is asserted neither the engine, the time base nor the Serializer steps, and a
delivery is discarded. That a host access then has no effect and no answer, that the release only lowers the level,
and that asserting a level already high or releasing one already low changes nothing, is the model's choice (log 9
and 4). (The parameters, the record of the wire and of the bus and the moves to come are set aside: log 2, 5, 6, 7. The
model's field `rxAtAccept` takes its reset value like the rest, whichever that is: log 10.) -/
def Obligations.ResetAbandonsEverything : Prop :=
  (∀ s : State, s.rst = false → nextEvent s = .rstAssert →
    ∃ t, step s = .next t ∧ t.rst = true
      ∧ { t with rst := false, cfg := State.reset.cfg, wireTx := State.reset.wireTx, busData := State.reset.busData,
                 script := State.reset.script, draws := State.reset.draws } = State.reset)
    ∧ (∀ s : State, s.rst = true →
      (nextEvent s = .engine ∨ nextEvent s = .tick ∨ nextEvent s = .serialize
          ∨ ∃ x, nextEvent s = .deliver x) →
      step s = .next (popEvent s))
    ∧ (∀ (s : State) (a v : Word), s.rst = true →
      nextEvent s = .hostRead a ∨ nextEvent s = .hostWrite a v ∨ nextEvent s = .rstAssert →
      step s = .next (popEvent s))
    ∧ ∀ s : State, nextEvent s = .rstRelease →
      step s = .next { popEvent s with rst := false }

/-! ## Whole-machine rules -/

/-- The invariant of Sys2Proof/Safety.lean, which gathers what 10_state.md, 40_control.md, 43_session.md and
44_frame_codec.md derive about every state, is kept by every step. -/
def Obligations.EveryStepKeepsTheInvariant : Prop :=
  ∀ s t : State, Inv s → step s = .next t → Inv t

/-- The state after reset meets the invariant. -/
def Obligations.ResetMeetsTheInvariant : Prop := Inv State.reset

/-- R181: every transition of `SESSION`, and no other. -/
def Obligations.SessionTransitionsAreThoseOfTheTable : Prop :=
  (∀ s t : State, Inv s → step s = .next t → t.session ≠ s.session →
    (engineMoves s = true ∧ decode s.cmd = .command .connect ∧ s.phase = .start
        ∧ s.session = .disconnected ∧ t.session = .initializing)
      ∨ (engineMoves s = true ∧ decode s.cmd = .command .connect ∧ s.phase = .connectAck
        ∧ s.session = .initializing ∧ t.session = .ready ∧ t.errKind = .none)
      ∨ (engineMoves s = true ∧ decode s.cmd = .command .connect ∧ s.session = .initializing
        ∧ t.session = .faulted ∧ (t.errKind = .handshakeFailure ∨ t.errKind = .timeout)
        ∧ (s.phase = .connectSync ∨ s.phase = .connectKey1 ∨ s.phase = .connectKey2 ∨ s.phase = .connectEcho
          ∨ s.phase = .connectAck))
      ∨ (engineMoves s = true ∧ decode s.cmd = .command .sendCmd ∧ s.phase = .sendGap ∧ kaExpired s = true
        ∧ s.session = .ready ∧ t.session = .faulted ∧ t.errKind = .sessionExpired)
      ∨ (engineMoves s = true ∧ decode s.cmd = .command .disconnect ∧ t.session = .disconnected)
      ∨ (nextEvent s = .rstAssert ∧ t.session = .disconnected))
    ∧ ∀ s t : State, Inv s → step s = .next t → engineMoves s = true →
      (decode s.cmd = .command .connect → s.phase = .start → s.session = .disconnected →
          t.session = .initializing)
        ∧ (s.phase = .connectAck → t.busy = false → t.errKind = .none → t.session = .ready)
        ∧ (s.phase.owner = some .connect → t.busy = false → t.errKind ≠ .none → t.session = .faulted)
        ∧ (s.phase = .sendGap → kaExpired s = true → t.session = .faulted)
        ∧ (decode s.cmd = .command .disconnect → t.session = .disconnected)

/-- From a state that meets the invariant no step faults, and a step is refused only for a host access outside the
contract (R61, R65; log 8, 12). -/
def Obligations.NoStepStopsButAnAccessOutsideTheContract : Prop :=
  ∀ s : State, Inv s →
    (∀ f, step s ≠ .fault f)
      ∧ (∀ r, step s = .refused r → (nextEvent s).wellFormed = false
          ∧ (r = .misalignedAccess ∨ r = .offsetOutsideSpace))
      ∧ ((nextEvent s).wellFormed = true → ∃ t, step s = .next t)

/-- 00_scope.md R6 and 70_reset_and_hazards.md R275: the parameters are fixed; no step changes them (log 5). -/
def Obligations.ParametersNeverChange : Prop := ∀ s t : State, step s = .next t → t.cfg = s.cfg

/-- R211: while SEND_CMD sends, the last bytes put on the line are the request frame's first bytes in order, and
once it reads the response they are the whole frame. -/
def Obligations.RequestBytesLeaveInFrameOrder : Prop :=
  ∀ s t : State, Inv s → step s = .next t →
    (t.phase = .sendEcho → (requestFrame t.cfg (pidBytes t.pidBuf t.n)).take (t.locals.idx + 1) <:+ outgoing t
        ∧ t.locals.idx < t.n + 4)
      ∧ (t.phase = .sendResp → requestFrame t.cfg (pidBytes t.pidBuf t.n) <:+ outgoing t)
      ∧ (t.wireTx = s.wireTx ∨ (nextEvent s = .serialize ∧ t.wireTx = s.wireTx ++ [s.txReg]))

/-- 40_control.md section 3 and 70_reset_and_hazards.md section 2 ("no Request Frame is ever sent while
Session.state /= Ready"): a byte that SEND_CMD buffers is a byte of its request frame, in Ready. -/
def Obligations.NoRequestByteOutsideReady : Prop :=
  ∀ s t : State, Inv s → step s = .next t → decode s.cmd = .command .sendCmd → s.txFull = false →
    t.txFull = true →
    s.session = .ready ∧ t.session = .ready ∧ s.phase = .sendTx
      ∧ (requestFrame s.cfg (pidBytes s.pidBuf s.n))[s.locals.idx]? = some t.txReg

/-- 44_frame_codec.md (commit): `RESBUF`, `RES_VALID` (to 1) and `LAST_OK` change only at the commit of a successful
SEND_CMD, all together; any error of it leaves `RESBUF` and `LAST_OK` and ends with `RES_VALID` = 0, after a failed
precondition too (the model's reading of rules that differ, log 11). A successful CONNECT also writes `LAST_OK`, and
DISCONNECT and reset clear what they clear. -/
def Obligations.ResultsChangeOnlyAtTheCommit : Prop :=
  ∀ s t : State, Inv s → step s = .next t → s.rst = false → nextEvent s ≠ .rstAssert →
    (t.resBuf ≠ s.resBuf ∨ (s.resValid = false ∧ t.resValid = true) →
      engineMoves s = true ∧ decode s.cmd = .command .sendCmd ∧ s.phase = .sendResp ∧ t.busy = false
        ∧ t.errKind = .none ∧ t.resValid = true ∧ t.lastOk = s.now ∧ t.tCmdEnd = s.now
        ∧ ∀ k, t.e ≤ k → t.resBuf.get k = s.resBuf.get k)
      ∧ (t.lastOk ≠ s.lastOk → engineMoves s = true ∧ t.errKind = .none ∧ t.busy = false ∧ t.session = .ready
        ∧ ((decode s.cmd = .command .sendCmd ∧ s.phase = .sendResp ∧ t.resValid = true)
          ∨ (decode s.cmd = .command .connect ∧ s.phase = .connectAck)))
      ∧ (decode s.cmd = .command .sendCmd → s.busy = true → t.busy = false → t.errKind ≠ .none →
        t.resValid = false ∧ t.resBuf = s.resBuf ∧ t.lastOk = s.lastOk)

/-- R195: a SEND_CMD that ends with any outcome but `SessionExpired` leaves the session as it was. -/
def Obligations.CodecErrorsLeaveTheSession : Prop :=
  ∀ s t : State, s.busy = true → exec .sendCmd s = .next t → t.busy = false → t.errKind ≠ .sessionExpired →
    t.session = s.session

/-- 20_memory.md section 4 (visibility of results): while no command runs, no step changes a result register, the
session, the line or the time stamps; only a reset does, and only accepting a command starts one. -/
def Obligations.ResultsStandWhileIdle : Prop :=
  ∀ s t : State, Inv s → s.busy = false → nextEvent s ≠ .rstAssert → step s = .next t →
    t.errKind = s.errKind ∧ t.errByte = s.errByte ∧ t.errPos = s.errPos ∧ t.keySync = s.keySync
      ∧ t.key1 = s.key1 ∧ t.key2 = s.key2 ∧ t.rxData = s.rxData ∧ t.csumReceived = s.csumReceived
      ∧ t.csumComputed = s.csumComputed ∧ t.resBuf = s.resBuf ∧ t.resValid = s.resValid ∧ t.lastOk = s.lastOk
      ∧ t.tCmdEnd = s.tCmdEnd ∧ t.session = s.session ∧ t.lineMode = s.lineMode ∧ t.kline = s.kline
      ∧ t.txReg = s.txReg
      ∧ (t.busy = true → s.rst = false ∧ ∃ a v, nextEvent s = .hostWrite a v ∧ t.cmd = v ∧ t.phase = .start)

/-- 43_session.md section 2: `KEYS` changes only as CONNECT takes the byte, and the byte taken is what is stored. -/
def Obligations.KeysChangeOnlyAsTheirBytesArrive : Prop :=
  ∀ s t : State, Inv s → step s = .next t → nextEvent s ≠ .rstAssert →
    (t.keySync ≠ s.keySync → engineMoves s = true ∧ s.phase = .connectSync ∧ t.keySync = s.rxReg)
      ∧ (t.key1 ≠ s.key1 → engineMoves s = true ∧ s.phase = .connectKey1 ∧ t.key1 = s.rxReg)
      ∧ (t.key2 ≠ s.key2 → engineMoves s = true ∧ s.phase = .connectKey2 ∧ t.key2 = s.rxReg)
end

