-- ==== Sys2Proof/Laws/State.lean ====
section
/-!
SUPPORT. What each named update of State does to each field, one lemma per field, so that no later proof unfolds
a record update. The parts where the update changes the field come first.
-/
namespace Sys2Proof.Machine

section

variable (v : Word) (s : State)

@[simp] theorem accept_cmd : (accept v s).cmd = v := rfl
@[simp] theorem accept_busy : (accept v s).busy = true := rfl
@[simp] theorem accept_rxOverrun : (accept v s).rxOverrun = false := rfl
@[simp] theorem accept_phase : (accept v s).phase = .start := rfl
@[simp] theorem accept_locals : (accept v s).locals = Locals.empty := rfl
@[simp] theorem accept_cfg : (accept v s).cfg = s.cfg := rfl
@[simp] theorem accept_session : (accept v s).session = s.session := rfl
@[simp] theorem accept_lineMode : (accept v s).lineMode = s.lineMode := rfl
@[simp] theorem accept_kline : (accept v s).kline = s.kline := rfl
@[simp] theorem accept_txFull : (accept v s).txFull = s.txFull := rfl
@[simp] theorem accept_rxFull : (accept v s).rxFull = s.rxFull := rfl
@[simp] theorem accept_resValid : (accept v s).resValid = s.resValid := rfl
@[simp] theorem accept_errKind : (accept v s).errKind = s.errKind := rfl
@[simp] theorem accept_errByte : (accept v s).errByte = s.errByte := rfl
@[simp] theorem accept_errPos : (accept v s).errPos = s.errPos := rfl
@[simp] theorem accept_keySync : (accept v s).keySync = s.keySync := rfl
@[simp] theorem accept_key1 : (accept v s).key1 = s.key1 := rfl
@[simp] theorem accept_key2 : (accept v s).key2 = s.key2 := rfl
@[simp] theorem accept_txData : (accept v s).txData = s.txData := rfl
@[simp] theorem accept_rxData : (accept v s).rxData = s.rxData := rfl
@[simp] theorem accept_cmdLen : (accept v s).cmdLen = s.cmdLen := rfl
@[simp] theorem accept_expLen : (accept v s).expLen = s.expLen := rfl
@[simp] theorem accept_csumReceived : (accept v s).csumReceived = s.csumReceived := rfl
@[simp] theorem accept_csumComputed : (accept v s).csumComputed = s.csumComputed := rfl
@[simp] theorem accept_pidBuf : (accept v s).pidBuf = s.pidBuf := rfl
@[simp] theorem accept_resBuf : (accept v s).resBuf = s.resBuf := rfl
@[simp] theorem accept_now : (accept v s).now = s.now := rfl
@[simp] theorem accept_lastOk : (accept v s).lastOk = s.lastOk := rfl
@[simp] theorem accept_txReg : (accept v s).txReg = s.txReg := rfl
@[simp] theorem accept_rxReg : (accept v s).rxReg = s.rxReg := rfl
@[simp] theorem accept_tCmdEnd : (accept v s).tCmdEnd = s.tCmdEnd := rfl
@[simp] theorem accept_rxAtAccept : (accept v s).rxAtAccept = s.rxFull := rfl
@[simp] theorem accept_rst : (accept v s).rst = s.rst := rfl
@[simp] theorem accept_wireTx : (accept v s).wireTx = s.wireTx := rfl
@[simp] theorem accept_busData : (accept v s).busData = s.busData := rfl
@[simp] theorem accept_script : (accept v s).script = s.script := rfl
@[simp] theorem accept_draws : (accept v s).draws = s.draws := rfl

end

section

variable (p : Phase) (s : State)

@[simp] theorem hold_phase : (hold p s).phase = p := rfl
@[simp] theorem hold_locals : (hold p s).locals = { s.locals with t0 := s.now } := rfl
@[simp] theorem hold_cfg : (hold p s).cfg = s.cfg := rfl
@[simp] theorem hold_cmd : (hold p s).cmd = s.cmd := rfl
@[simp] theorem hold_busy : (hold p s).busy = s.busy := rfl
@[simp] theorem hold_session : (hold p s).session = s.session := rfl
@[simp] theorem hold_lineMode : (hold p s).lineMode = s.lineMode := rfl
@[simp] theorem hold_kline : (hold p s).kline = s.kline := rfl
@[simp] theorem hold_txFull : (hold p s).txFull = s.txFull := rfl
@[simp] theorem hold_rxFull : (hold p s).rxFull = s.rxFull := rfl
@[simp] theorem hold_rxOverrun : (hold p s).rxOverrun = s.rxOverrun := rfl
@[simp] theorem hold_resValid : (hold p s).resValid = s.resValid := rfl
@[simp] theorem hold_errKind : (hold p s).errKind = s.errKind := rfl
@[simp] theorem hold_errByte : (hold p s).errByte = s.errByte := rfl
@[simp] theorem hold_errPos : (hold p s).errPos = s.errPos := rfl
@[simp] theorem hold_keySync : (hold p s).keySync = s.keySync := rfl
@[simp] theorem hold_key1 : (hold p s).key1 = s.key1 := rfl
@[simp] theorem hold_key2 : (hold p s).key2 = s.key2 := rfl
@[simp] theorem hold_txData : (hold p s).txData = s.txData := rfl
@[simp] theorem hold_rxData : (hold p s).rxData = s.rxData := rfl
@[simp] theorem hold_cmdLen : (hold p s).cmdLen = s.cmdLen := rfl
@[simp] theorem hold_expLen : (hold p s).expLen = s.expLen := rfl
@[simp] theorem hold_csumReceived : (hold p s).csumReceived = s.csumReceived := rfl
@[simp] theorem hold_csumComputed : (hold p s).csumComputed = s.csumComputed := rfl
@[simp] theorem hold_pidBuf : (hold p s).pidBuf = s.pidBuf := rfl
@[simp] theorem hold_resBuf : (hold p s).resBuf = s.resBuf := rfl
@[simp] theorem hold_now : (hold p s).now = s.now := rfl
@[simp] theorem hold_lastOk : (hold p s).lastOk = s.lastOk := rfl
@[simp] theorem hold_txReg : (hold p s).txReg = s.txReg := rfl
@[simp] theorem hold_rxReg : (hold p s).rxReg = s.rxReg := rfl
@[simp] theorem hold_tCmdEnd : (hold p s).tCmdEnd = s.tCmdEnd := rfl
@[simp] theorem hold_rxAtAccept : (hold p s).rxAtAccept = s.rxAtAccept := rfl
@[simp] theorem hold_rst : (hold p s).rst = s.rst := rfl
@[simp] theorem hold_wireTx : (hold p s).wireTx = s.wireTx := rfl
@[simp] theorem hold_busData : (hold p s).busData = s.busData := rfl
@[simp] theorem hold_script : (hold p s).script = s.script := rfl
@[simp] theorem hold_draws : (hold p s).draws = s.draws := rfl

end

section

variable (i : Nat) (s : State)

@[simp] theorem setIdx_locals : (setIdx i s).locals = { s.locals with idx := i } := rfl
@[simp] theorem setIdx_cfg : (setIdx i s).cfg = s.cfg := rfl
@[simp] theorem setIdx_cmd : (setIdx i s).cmd = s.cmd := rfl
@[simp] theorem setIdx_busy : (setIdx i s).busy = s.busy := rfl
@[simp] theorem setIdx_session : (setIdx i s).session = s.session := rfl
@[simp] theorem setIdx_lineMode : (setIdx i s).lineMode = s.lineMode := rfl
@[simp] theorem setIdx_kline : (setIdx i s).kline = s.kline := rfl
@[simp] theorem setIdx_txFull : (setIdx i s).txFull = s.txFull := rfl
@[simp] theorem setIdx_rxFull : (setIdx i s).rxFull = s.rxFull := rfl
@[simp] theorem setIdx_rxOverrun : (setIdx i s).rxOverrun = s.rxOverrun := rfl
@[simp] theorem setIdx_resValid : (setIdx i s).resValid = s.resValid := rfl
@[simp] theorem setIdx_errKind : (setIdx i s).errKind = s.errKind := rfl
@[simp] theorem setIdx_errByte : (setIdx i s).errByte = s.errByte := rfl
@[simp] theorem setIdx_errPos : (setIdx i s).errPos = s.errPos := rfl
@[simp] theorem setIdx_keySync : (setIdx i s).keySync = s.keySync := rfl
@[simp] theorem setIdx_key1 : (setIdx i s).key1 = s.key1 := rfl
@[simp] theorem setIdx_key2 : (setIdx i s).key2 = s.key2 := rfl
@[simp] theorem setIdx_txData : (setIdx i s).txData = s.txData := rfl
@[simp] theorem setIdx_rxData : (setIdx i s).rxData = s.rxData := rfl
@[simp] theorem setIdx_cmdLen : (setIdx i s).cmdLen = s.cmdLen := rfl
@[simp] theorem setIdx_expLen : (setIdx i s).expLen = s.expLen := rfl
@[simp] theorem setIdx_csumReceived : (setIdx i s).csumReceived = s.csumReceived := rfl
@[simp] theorem setIdx_csumComputed : (setIdx i s).csumComputed = s.csumComputed := rfl
@[simp] theorem setIdx_pidBuf : (setIdx i s).pidBuf = s.pidBuf := rfl
@[simp] theorem setIdx_resBuf : (setIdx i s).resBuf = s.resBuf := rfl
@[simp] theorem setIdx_now : (setIdx i s).now = s.now := rfl
@[simp] theorem setIdx_lastOk : (setIdx i s).lastOk = s.lastOk := rfl
@[simp] theorem setIdx_phase : (setIdx i s).phase = s.phase := rfl
@[simp] theorem setIdx_txReg : (setIdx i s).txReg = s.txReg := rfl
@[simp] theorem setIdx_rxReg : (setIdx i s).rxReg = s.rxReg := rfl
@[simp] theorem setIdx_tCmdEnd : (setIdx i s).tCmdEnd = s.tCmdEnd := rfl
@[simp] theorem setIdx_rxAtAccept : (setIdx i s).rxAtAccept = s.rxAtAccept := rfl
@[simp] theorem setIdx_rst : (setIdx i s).rst = s.rst := rfl
@[simp] theorem setIdx_wireTx : (setIdx i s).wireTx = s.wireTx := rfl
@[simp] theorem setIdx_busData : (setIdx i s).busData = s.busData := rfl
@[simp] theorem setIdx_script : (setIdx i s).script = s.script := rfl
@[simp] theorem setIdx_draws : (setIdx i s).draws = s.draws := rfl

end

section

variable (s : State)

@[simp] theorem finish_busy : (finish s).busy = false := rfl
@[simp] theorem finish_errKind : (finish s).errKind = .none := rfl
@[simp] theorem finish_errByte : (finish s).errByte = 0 := rfl
@[simp] theorem finish_errPos : (finish s).errPos = 0 := rfl
@[simp] theorem finish_phase : (finish s).phase = .idle := rfl
@[simp] theorem finish_cfg : (finish s).cfg = s.cfg := rfl
@[simp] theorem finish_cmd : (finish s).cmd = s.cmd := rfl
@[simp] theorem finish_session : (finish s).session = s.session := rfl
@[simp] theorem finish_lineMode : (finish s).lineMode = s.lineMode := rfl
@[simp] theorem finish_kline : (finish s).kline = s.kline := rfl
@[simp] theorem finish_txFull : (finish s).txFull = s.txFull := rfl
@[simp] theorem finish_rxFull : (finish s).rxFull = s.rxFull := rfl
@[simp] theorem finish_rxOverrun : (finish s).rxOverrun = s.rxOverrun := rfl
@[simp] theorem finish_resValid : (finish s).resValid = s.resValid := rfl
@[simp] theorem finish_keySync : (finish s).keySync = s.keySync := rfl
@[simp] theorem finish_key1 : (finish s).key1 = s.key1 := rfl
@[simp] theorem finish_key2 : (finish s).key2 = s.key2 := rfl
@[simp] theorem finish_txData : (finish s).txData = s.txData := rfl
@[simp] theorem finish_rxData : (finish s).rxData = s.rxData := rfl
@[simp] theorem finish_cmdLen : (finish s).cmdLen = s.cmdLen := rfl
@[simp] theorem finish_expLen : (finish s).expLen = s.expLen := rfl
@[simp] theorem finish_csumReceived : (finish s).csumReceived = s.csumReceived := rfl
@[simp] theorem finish_csumComputed : (finish s).csumComputed = s.csumComputed := rfl
@[simp] theorem finish_pidBuf : (finish s).pidBuf = s.pidBuf := rfl
@[simp] theorem finish_resBuf : (finish s).resBuf = s.resBuf := rfl
@[simp] theorem finish_now : (finish s).now = s.now := rfl
@[simp] theorem finish_lastOk : (finish s).lastOk = s.lastOk := rfl
@[simp] theorem finish_locals : (finish s).locals = s.locals := rfl
@[simp] theorem finish_txReg : (finish s).txReg = s.txReg := rfl
@[simp] theorem finish_rxReg : (finish s).rxReg = s.rxReg := rfl
@[simp] theorem finish_tCmdEnd : (finish s).tCmdEnd = s.tCmdEnd := rfl
@[simp] theorem finish_rxAtAccept : (finish s).rxAtAccept = s.rxAtAccept := rfl
@[simp] theorem finish_rst : (finish s).rst = s.rst := rfl
@[simp] theorem finish_wireTx : (finish s).wireTx = s.wireTx := rfl
@[simp] theorem finish_busData : (finish s).busData = s.busData := rfl
@[simp] theorem finish_script : (finish s).script = s.script := rfl
@[simp] theorem finish_draws : (finish s).draws = s.draws := rfl

end

section

variable (k : ErrorKind) (b p : Byte) (s : State)

@[simp] theorem raiseError_busy : (raiseError k b p s).busy = false := rfl
@[simp] theorem raiseError_errKind : (raiseError k b p s).errKind = k := rfl
@[simp] theorem raiseError_errByte : (raiseError k b p s).errByte = b := rfl
@[simp] theorem raiseError_errPos : (raiseError k b p s).errPos = p := rfl
@[simp] theorem raiseError_phase : (raiseError k b p s).phase = .idle := rfl
@[simp] theorem raiseError_cfg : (raiseError k b p s).cfg = s.cfg := rfl
@[simp] theorem raiseError_cmd : (raiseError k b p s).cmd = s.cmd := rfl
@[simp] theorem raiseError_session : (raiseError k b p s).session = s.session := rfl
@[simp] theorem raiseError_lineMode : (raiseError k b p s).lineMode = s.lineMode := rfl
@[simp] theorem raiseError_kline : (raiseError k b p s).kline = s.kline := rfl
@[simp] theorem raiseError_txFull : (raiseError k b p s).txFull = s.txFull := rfl
@[simp] theorem raiseError_rxFull : (raiseError k b p s).rxFull = s.rxFull := rfl
@[simp] theorem raiseError_rxOverrun : (raiseError k b p s).rxOverrun = s.rxOverrun := rfl
@[simp] theorem raiseError_resValid : (raiseError k b p s).resValid = s.resValid := rfl
@[simp] theorem raiseError_keySync : (raiseError k b p s).keySync = s.keySync := rfl
@[simp] theorem raiseError_key1 : (raiseError k b p s).key1 = s.key1 := rfl
@[simp] theorem raiseError_key2 : (raiseError k b p s).key2 = s.key2 := rfl
@[simp] theorem raiseError_txData : (raiseError k b p s).txData = s.txData := rfl
@[simp] theorem raiseError_rxData : (raiseError k b p s).rxData = s.rxData := rfl
@[simp] theorem raiseError_cmdLen : (raiseError k b p s).cmdLen = s.cmdLen := rfl
@[simp] theorem raiseError_expLen : (raiseError k b p s).expLen = s.expLen := rfl
@[simp] theorem raiseError_csumReceived : (raiseError k b p s).csumReceived = s.csumReceived := rfl
@[simp] theorem raiseError_csumComputed : (raiseError k b p s).csumComputed = s.csumComputed := rfl
@[simp] theorem raiseError_pidBuf : (raiseError k b p s).pidBuf = s.pidBuf := rfl
@[simp] theorem raiseError_resBuf : (raiseError k b p s).resBuf = s.resBuf := rfl
@[simp] theorem raiseError_now : (raiseError k b p s).now = s.now := rfl
@[simp] theorem raiseError_lastOk : (raiseError k b p s).lastOk = s.lastOk := rfl
@[simp] theorem raiseError_locals : (raiseError k b p s).locals = s.locals := rfl
@[simp] theorem raiseError_txReg : (raiseError k b p s).txReg = s.txReg := rfl
@[simp] theorem raiseError_rxReg : (raiseError k b p s).rxReg = s.rxReg := rfl
@[simp] theorem raiseError_tCmdEnd : (raiseError k b p s).tCmdEnd = s.tCmdEnd := rfl
@[simp] theorem raiseError_rxAtAccept : (raiseError k b p s).rxAtAccept = s.rxAtAccept := rfl
@[simp] theorem raiseError_rst : (raiseError k b p s).rst = s.rst := rfl
@[simp] theorem raiseError_wireTx : (raiseError k b p s).wireTx = s.wireTx := rfl
@[simp] theorem raiseError_busData : (raiseError k b p s).busData = s.busData := rfl
@[simp] theorem raiseError_script : (raiseError k b p s).script = s.script := rfl
@[simp] theorem raiseError_draws : (raiseError k b p s).draws = s.draws := rfl

end

section

variable (k : ErrorKind) (b p : Byte) (s : State)

@[simp] theorem hsFail_busy : (hsFail k b p s).busy = false := rfl
@[simp] theorem hsFail_session : (hsFail k b p s).session = .faulted := rfl
@[simp] theorem hsFail_errKind : (hsFail k b p s).errKind = k := rfl
@[simp] theorem hsFail_errByte : (hsFail k b p s).errByte = b := rfl
@[simp] theorem hsFail_errPos : (hsFail k b p s).errPos = p := rfl
@[simp] theorem hsFail_phase : (hsFail k b p s).phase = .idle := rfl
@[simp] theorem hsFail_cfg : (hsFail k b p s).cfg = s.cfg := rfl
@[simp] theorem hsFail_cmd : (hsFail k b p s).cmd = s.cmd := rfl
@[simp] theorem hsFail_lineMode : (hsFail k b p s).lineMode = s.lineMode := rfl
@[simp] theorem hsFail_kline : (hsFail k b p s).kline = s.kline := rfl
@[simp] theorem hsFail_txFull : (hsFail k b p s).txFull = s.txFull := rfl
@[simp] theorem hsFail_rxFull : (hsFail k b p s).rxFull = s.rxFull := rfl
@[simp] theorem hsFail_rxOverrun : (hsFail k b p s).rxOverrun = s.rxOverrun := rfl
@[simp] theorem hsFail_resValid : (hsFail k b p s).resValid = s.resValid := rfl
@[simp] theorem hsFail_keySync : (hsFail k b p s).keySync = s.keySync := rfl
@[simp] theorem hsFail_key1 : (hsFail k b p s).key1 = s.key1 := rfl
@[simp] theorem hsFail_key2 : (hsFail k b p s).key2 = s.key2 := rfl
@[simp] theorem hsFail_txData : (hsFail k b p s).txData = s.txData := rfl
@[simp] theorem hsFail_rxData : (hsFail k b p s).rxData = s.rxData := rfl
@[simp] theorem hsFail_cmdLen : (hsFail k b p s).cmdLen = s.cmdLen := rfl
@[simp] theorem hsFail_expLen : (hsFail k b p s).expLen = s.expLen := rfl
@[simp] theorem hsFail_csumReceived : (hsFail k b p s).csumReceived = s.csumReceived := rfl
@[simp] theorem hsFail_csumComputed : (hsFail k b p s).csumComputed = s.csumComputed := rfl
@[simp] theorem hsFail_pidBuf : (hsFail k b p s).pidBuf = s.pidBuf := rfl
@[simp] theorem hsFail_resBuf : (hsFail k b p s).resBuf = s.resBuf := rfl
@[simp] theorem hsFail_now : (hsFail k b p s).now = s.now := rfl
@[simp] theorem hsFail_lastOk : (hsFail k b p s).lastOk = s.lastOk := rfl
@[simp] theorem hsFail_locals : (hsFail k b p s).locals = s.locals := rfl
@[simp] theorem hsFail_txReg : (hsFail k b p s).txReg = s.txReg := rfl
@[simp] theorem hsFail_rxReg : (hsFail k b p s).rxReg = s.rxReg := rfl
@[simp] theorem hsFail_tCmdEnd : (hsFail k b p s).tCmdEnd = s.tCmdEnd := rfl
@[simp] theorem hsFail_rxAtAccept : (hsFail k b p s).rxAtAccept = s.rxAtAccept := rfl
@[simp] theorem hsFail_rst : (hsFail k b p s).rst = s.rst := rfl
@[simp] theorem hsFail_wireTx : (hsFail k b p s).wireTx = s.wireTx := rfl
@[simp] theorem hsFail_busData : (hsFail k b p s).busData = s.busData := rfl
@[simp] theorem hsFail_script : (hsFail k b p s).script = s.script := rfl
@[simp] theorem hsFail_draws : (hsFail k b p s).draws = s.draws := rfl

end

section

variable (k : ErrorKind) (b p : Byte) (s : State)

@[simp] theorem endCmd_busy : (endCmd k b p s).busy = false := rfl
@[simp] theorem endCmd_errKind : (endCmd k b p s).errKind = k := rfl
@[simp] theorem endCmd_errByte : (endCmd k b p s).errByte = b := rfl
@[simp] theorem endCmd_errPos : (endCmd k b p s).errPos = p := rfl
@[simp] theorem endCmd_phase : (endCmd k b p s).phase = .idle := rfl
@[simp] theorem endCmd_tCmdEnd : (endCmd k b p s).tCmdEnd = s.now := rfl
@[simp] theorem endCmd_rxAtAccept : (endCmd k b p s).rxAtAccept = s.rxAtAccept := rfl
@[simp] theorem endCmd_cfg : (endCmd k b p s).cfg = s.cfg := rfl
@[simp] theorem endCmd_cmd : (endCmd k b p s).cmd = s.cmd := rfl
@[simp] theorem endCmd_session : (endCmd k b p s).session = s.session := rfl
@[simp] theorem endCmd_lineMode : (endCmd k b p s).lineMode = s.lineMode := rfl
@[simp] theorem endCmd_kline : (endCmd k b p s).kline = s.kline := rfl
@[simp] theorem endCmd_txFull : (endCmd k b p s).txFull = s.txFull := rfl
@[simp] theorem endCmd_rxFull : (endCmd k b p s).rxFull = s.rxFull := rfl
@[simp] theorem endCmd_rxOverrun : (endCmd k b p s).rxOverrun = s.rxOverrun := rfl
@[simp] theorem endCmd_resValid : (endCmd k b p s).resValid = s.resValid := rfl
@[simp] theorem endCmd_keySync : (endCmd k b p s).keySync = s.keySync := rfl
@[simp] theorem endCmd_key1 : (endCmd k b p s).key1 = s.key1 := rfl
@[simp] theorem endCmd_key2 : (endCmd k b p s).key2 = s.key2 := rfl
@[simp] theorem endCmd_txData : (endCmd k b p s).txData = s.txData := rfl
@[simp] theorem endCmd_rxData : (endCmd k b p s).rxData = s.rxData := rfl
@[simp] theorem endCmd_cmdLen : (endCmd k b p s).cmdLen = s.cmdLen := rfl
@[simp] theorem endCmd_expLen : (endCmd k b p s).expLen = s.expLen := rfl
@[simp] theorem endCmd_csumReceived : (endCmd k b p s).csumReceived = s.csumReceived := rfl
@[simp] theorem endCmd_csumComputed : (endCmd k b p s).csumComputed = s.csumComputed := rfl
@[simp] theorem endCmd_pidBuf : (endCmd k b p s).pidBuf = s.pidBuf := rfl
@[simp] theorem endCmd_resBuf : (endCmd k b p s).resBuf = s.resBuf := rfl
@[simp] theorem endCmd_now : (endCmd k b p s).now = s.now := rfl
@[simp] theorem endCmd_lastOk : (endCmd k b p s).lastOk = s.lastOk := rfl
@[simp] theorem endCmd_locals : (endCmd k b p s).locals = s.locals := rfl
@[simp] theorem endCmd_txReg : (endCmd k b p s).txReg = s.txReg := rfl
@[simp] theorem endCmd_rxReg : (endCmd k b p s).rxReg = s.rxReg := rfl
@[simp] theorem endCmd_rst : (endCmd k b p s).rst = s.rst := rfl
@[simp] theorem endCmd_wireTx : (endCmd k b p s).wireTx = s.wireTx := rfl
@[simp] theorem endCmd_busData : (endCmd k b p s).busData = s.busData := rfl
@[simp] theorem endCmd_script : (endCmd k b p s).script = s.script := rfl
@[simp] theorem endCmd_draws : (endCmd k b p s).draws = s.draws := rfl

end

section

variable (l : Bool) (s : State)

@[simp] theorem drive_kline : (drive l s).kline = l := rfl
@[simp] theorem drive_cfg : (drive l s).cfg = s.cfg := rfl
@[simp] theorem drive_cmd : (drive l s).cmd = s.cmd := rfl
@[simp] theorem drive_busy : (drive l s).busy = s.busy := rfl
@[simp] theorem drive_session : (drive l s).session = s.session := rfl
@[simp] theorem drive_lineMode : (drive l s).lineMode = s.lineMode := rfl
@[simp] theorem drive_txFull : (drive l s).txFull = s.txFull := rfl
@[simp] theorem drive_rxFull : (drive l s).rxFull = s.rxFull := rfl
@[simp] theorem drive_rxOverrun : (drive l s).rxOverrun = s.rxOverrun := rfl
@[simp] theorem drive_resValid : (drive l s).resValid = s.resValid := rfl
@[simp] theorem drive_errKind : (drive l s).errKind = s.errKind := rfl
@[simp] theorem drive_errByte : (drive l s).errByte = s.errByte := rfl
@[simp] theorem drive_errPos : (drive l s).errPos = s.errPos := rfl
@[simp] theorem drive_keySync : (drive l s).keySync = s.keySync := rfl
@[simp] theorem drive_key1 : (drive l s).key1 = s.key1 := rfl
@[simp] theorem drive_key2 : (drive l s).key2 = s.key2 := rfl
@[simp] theorem drive_txData : (drive l s).txData = s.txData := rfl
@[simp] theorem drive_rxData : (drive l s).rxData = s.rxData := rfl
@[simp] theorem drive_cmdLen : (drive l s).cmdLen = s.cmdLen := rfl
@[simp] theorem drive_expLen : (drive l s).expLen = s.expLen := rfl
@[simp] theorem drive_csumReceived : (drive l s).csumReceived = s.csumReceived := rfl
@[simp] theorem drive_csumComputed : (drive l s).csumComputed = s.csumComputed := rfl
@[simp] theorem drive_pidBuf : (drive l s).pidBuf = s.pidBuf := rfl
@[simp] theorem drive_resBuf : (drive l s).resBuf = s.resBuf := rfl
@[simp] theorem drive_now : (drive l s).now = s.now := rfl
@[simp] theorem drive_lastOk : (drive l s).lastOk = s.lastOk := rfl
@[simp] theorem drive_phase : (drive l s).phase = s.phase := rfl
@[simp] theorem drive_locals : (drive l s).locals = s.locals := rfl
@[simp] theorem drive_txReg : (drive l s).txReg = s.txReg := rfl
@[simp] theorem drive_rxReg : (drive l s).rxReg = s.rxReg := rfl
@[simp] theorem drive_tCmdEnd : (drive l s).tCmdEnd = s.tCmdEnd := rfl
@[simp] theorem drive_rxAtAccept : (drive l s).rxAtAccept = s.rxAtAccept := rfl
@[simp] theorem drive_rst : (drive l s).rst = s.rst := rfl
@[simp] theorem drive_wireTx : (drive l s).wireTx = s.wireTx := rfl
@[simp] theorem drive_busData : (drive l s).busData = s.busData := rfl
@[simp] theorem drive_script : (drive l s).script = s.script := rfl
@[simp] theorem drive_draws : (drive l s).draws = s.draws := rfl

end

section

variable (s : State)

@[simp] theorem enterGpio_lineMode : (enterGpio s).lineMode = .gpio := rfl
@[simp] theorem enterGpio_txFull : (enterGpio s).txFull = false := rfl
@[simp] theorem enterGpio_cfg : (enterGpio s).cfg = s.cfg := rfl
@[simp] theorem enterGpio_cmd : (enterGpio s).cmd = s.cmd := rfl
@[simp] theorem enterGpio_busy : (enterGpio s).busy = s.busy := rfl
@[simp] theorem enterGpio_session : (enterGpio s).session = s.session := rfl
@[simp] theorem enterGpio_kline : (enterGpio s).kline = s.kline := rfl
@[simp] theorem enterGpio_rxFull : (enterGpio s).rxFull = s.rxFull := rfl
@[simp] theorem enterGpio_rxOverrun : (enterGpio s).rxOverrun = s.rxOverrun := rfl
@[simp] theorem enterGpio_resValid : (enterGpio s).resValid = s.resValid := rfl
@[simp] theorem enterGpio_errKind : (enterGpio s).errKind = s.errKind := rfl
@[simp] theorem enterGpio_errByte : (enterGpio s).errByte = s.errByte := rfl
@[simp] theorem enterGpio_errPos : (enterGpio s).errPos = s.errPos := rfl
@[simp] theorem enterGpio_keySync : (enterGpio s).keySync = s.keySync := rfl
@[simp] theorem enterGpio_key1 : (enterGpio s).key1 = s.key1 := rfl
@[simp] theorem enterGpio_key2 : (enterGpio s).key2 = s.key2 := rfl
@[simp] theorem enterGpio_txData : (enterGpio s).txData = s.txData := rfl
@[simp] theorem enterGpio_rxData : (enterGpio s).rxData = s.rxData := rfl
@[simp] theorem enterGpio_cmdLen : (enterGpio s).cmdLen = s.cmdLen := rfl
@[simp] theorem enterGpio_expLen : (enterGpio s).expLen = s.expLen := rfl
@[simp] theorem enterGpio_csumReceived : (enterGpio s).csumReceived = s.csumReceived := rfl
@[simp] theorem enterGpio_csumComputed : (enterGpio s).csumComputed = s.csumComputed := rfl
@[simp] theorem enterGpio_pidBuf : (enterGpio s).pidBuf = s.pidBuf := rfl
@[simp] theorem enterGpio_resBuf : (enterGpio s).resBuf = s.resBuf := rfl
@[simp] theorem enterGpio_now : (enterGpio s).now = s.now := rfl
@[simp] theorem enterGpio_lastOk : (enterGpio s).lastOk = s.lastOk := rfl
@[simp] theorem enterGpio_phase : (enterGpio s).phase = s.phase := rfl
@[simp] theorem enterGpio_locals : (enterGpio s).locals = s.locals := rfl
@[simp] theorem enterGpio_txReg : (enterGpio s).txReg = s.txReg := rfl
@[simp] theorem enterGpio_rxReg : (enterGpio s).rxReg = s.rxReg := rfl
@[simp] theorem enterGpio_tCmdEnd : (enterGpio s).tCmdEnd = s.tCmdEnd := rfl
@[simp] theorem enterGpio_rxAtAccept : (enterGpio s).rxAtAccept = s.rxAtAccept := rfl
@[simp] theorem enterGpio_rst : (enterGpio s).rst = s.rst := rfl
@[simp] theorem enterGpio_wireTx : (enterGpio s).wireTx = s.wireTx := rfl
@[simp] theorem enterGpio_busData : (enterGpio s).busData = s.busData := rfl
@[simp] theorem enterGpio_script : (enterGpio s).script = s.script := rfl
@[simp] theorem enterGpio_draws : (enterGpio s).draws = s.draws := rfl

end

section

variable (s : State)

@[simp] theorem enterUart_lineMode : (enterUart s).lineMode = .uart := rfl
@[simp] theorem enterUart_kline : (enterUart s).kline = true := rfl
@[simp] theorem enterUart_rxFull : (enterUart s).rxFull = false := rfl
@[simp] theorem enterUart_cfg : (enterUart s).cfg = s.cfg := rfl
@[simp] theorem enterUart_cmd : (enterUart s).cmd = s.cmd := rfl
@[simp] theorem enterUart_busy : (enterUart s).busy = s.busy := rfl
@[simp] theorem enterUart_session : (enterUart s).session = s.session := rfl
@[simp] theorem enterUart_txFull : (enterUart s).txFull = s.txFull := rfl
@[simp] theorem enterUart_rxOverrun : (enterUart s).rxOverrun = s.rxOverrun := rfl
@[simp] theorem enterUart_resValid : (enterUart s).resValid = s.resValid := rfl
@[simp] theorem enterUart_errKind : (enterUart s).errKind = s.errKind := rfl
@[simp] theorem enterUart_errByte : (enterUart s).errByte = s.errByte := rfl
@[simp] theorem enterUart_errPos : (enterUart s).errPos = s.errPos := rfl
@[simp] theorem enterUart_keySync : (enterUart s).keySync = s.keySync := rfl
@[simp] theorem enterUart_key1 : (enterUart s).key1 = s.key1 := rfl
@[simp] theorem enterUart_key2 : (enterUart s).key2 = s.key2 := rfl
@[simp] theorem enterUart_txData : (enterUart s).txData = s.txData := rfl
@[simp] theorem enterUart_rxData : (enterUart s).rxData = s.rxData := rfl
@[simp] theorem enterUart_cmdLen : (enterUart s).cmdLen = s.cmdLen := rfl
@[simp] theorem enterUart_expLen : (enterUart s).expLen = s.expLen := rfl
@[simp] theorem enterUart_csumReceived : (enterUart s).csumReceived = s.csumReceived := rfl
@[simp] theorem enterUart_csumComputed : (enterUart s).csumComputed = s.csumComputed := rfl
@[simp] theorem enterUart_pidBuf : (enterUart s).pidBuf = s.pidBuf := rfl
@[simp] theorem enterUart_resBuf : (enterUart s).resBuf = s.resBuf := rfl
@[simp] theorem enterUart_now : (enterUart s).now = s.now := rfl
@[simp] theorem enterUart_lastOk : (enterUart s).lastOk = s.lastOk := rfl
@[simp] theorem enterUart_phase : (enterUart s).phase = s.phase := rfl
@[simp] theorem enterUart_locals : (enterUart s).locals = s.locals := rfl
@[simp] theorem enterUart_txReg : (enterUart s).txReg = s.txReg := rfl
@[simp] theorem enterUart_rxReg : (enterUart s).rxReg = s.rxReg := rfl
@[simp] theorem enterUart_tCmdEnd : (enterUart s).tCmdEnd = s.tCmdEnd := rfl
@[simp] theorem enterUart_rxAtAccept : (enterUart s).rxAtAccept = s.rxAtAccept := rfl
@[simp] theorem enterUart_rst : (enterUart s).rst = s.rst := rfl
@[simp] theorem enterUart_wireTx : (enterUart s).wireTx = s.wireTx := rfl
@[simp] theorem enterUart_busData : (enterUart s).busData = s.busData := rfl
@[simp] theorem enterUart_script : (enterUart s).script = s.script := rfl
@[simp] theorem enterUart_draws : (enterUart s).draws = s.draws := rfl

end

section

variable (s : State)

@[simp] theorem tick_now : (tick s).now = s.now + 1 := rfl
@[simp] theorem tick_cfg : (tick s).cfg = s.cfg := rfl
@[simp] theorem tick_cmd : (tick s).cmd = s.cmd := rfl
@[simp] theorem tick_busy : (tick s).busy = s.busy := rfl
@[simp] theorem tick_session : (tick s).session = s.session := rfl
@[simp] theorem tick_lineMode : (tick s).lineMode = s.lineMode := rfl
@[simp] theorem tick_kline : (tick s).kline = s.kline := rfl
@[simp] theorem tick_txFull : (tick s).txFull = s.txFull := rfl
@[simp] theorem tick_rxFull : (tick s).rxFull = s.rxFull := rfl
@[simp] theorem tick_rxOverrun : (tick s).rxOverrun = s.rxOverrun := rfl
@[simp] theorem tick_resValid : (tick s).resValid = s.resValid := rfl
@[simp] theorem tick_errKind : (tick s).errKind = s.errKind := rfl
@[simp] theorem tick_errByte : (tick s).errByte = s.errByte := rfl
@[simp] theorem tick_errPos : (tick s).errPos = s.errPos := rfl
@[simp] theorem tick_keySync : (tick s).keySync = s.keySync := rfl
@[simp] theorem tick_key1 : (tick s).key1 = s.key1 := rfl
@[simp] theorem tick_key2 : (tick s).key2 = s.key2 := rfl
@[simp] theorem tick_txData : (tick s).txData = s.txData := rfl
@[simp] theorem tick_rxData : (tick s).rxData = s.rxData := rfl
@[simp] theorem tick_cmdLen : (tick s).cmdLen = s.cmdLen := rfl
@[simp] theorem tick_expLen : (tick s).expLen = s.expLen := rfl
@[simp] theorem tick_csumReceived : (tick s).csumReceived = s.csumReceived := rfl
@[simp] theorem tick_csumComputed : (tick s).csumComputed = s.csumComputed := rfl
@[simp] theorem tick_pidBuf : (tick s).pidBuf = s.pidBuf := rfl
@[simp] theorem tick_resBuf : (tick s).resBuf = s.resBuf := rfl
@[simp] theorem tick_lastOk : (tick s).lastOk = s.lastOk := rfl
@[simp] theorem tick_phase : (tick s).phase = s.phase := rfl
@[simp] theorem tick_locals : (tick s).locals = s.locals := rfl
@[simp] theorem tick_txReg : (tick s).txReg = s.txReg := rfl
@[simp] theorem tick_rxReg : (tick s).rxReg = s.rxReg := rfl
@[simp] theorem tick_tCmdEnd : (tick s).tCmdEnd = s.tCmdEnd := rfl
@[simp] theorem tick_rxAtAccept : (tick s).rxAtAccept = s.rxAtAccept := rfl
@[simp] theorem tick_rst : (tick s).rst = s.rst := rfl
@[simp] theorem tick_wireTx : (tick s).wireTx = s.wireTx := rfl
@[simp] theorem tick_busData : (tick s).busData = s.busData := rfl
@[simp] theorem tick_script : (tick s).script = s.script := rfl
@[simp] theorem tick_draws : (tick s).draws = s.draws := rfl

end

section

variable (s : State)

@[simp] theorem resetBlock_cfg : (resetBlock s).cfg = s.cfg := rfl
@[simp] theorem resetBlock_cmd : (resetBlock s).cmd = 0 := rfl
@[simp] theorem resetBlock_busy : (resetBlock s).busy = false := rfl
@[simp] theorem resetBlock_session : (resetBlock s).session = .disconnected := rfl
@[simp] theorem resetBlock_lineMode : (resetBlock s).lineMode = .gpio := rfl
@[simp] theorem resetBlock_kline : (resetBlock s).kline = true := rfl
@[simp] theorem resetBlock_txFull : (resetBlock s).txFull = false := rfl
@[simp] theorem resetBlock_rxFull : (resetBlock s).rxFull = false := rfl
@[simp] theorem resetBlock_rxOverrun : (resetBlock s).rxOverrun = false := rfl
@[simp] theorem resetBlock_resValid : (resetBlock s).resValid = false := rfl
@[simp] theorem resetBlock_errKind : (resetBlock s).errKind = .none := rfl
@[simp] theorem resetBlock_errByte : (resetBlock s).errByte = 0 := rfl
@[simp] theorem resetBlock_errPos : (resetBlock s).errPos = 0 := rfl
@[simp] theorem resetBlock_keySync : (resetBlock s).keySync = 0 := rfl
@[simp] theorem resetBlock_key1 : (resetBlock s).key1 = 0 := rfl
@[simp] theorem resetBlock_key2 : (resetBlock s).key2 = 0 := rfl
@[simp] theorem resetBlock_txData : (resetBlock s).txData = 0 := rfl
@[simp] theorem resetBlock_rxData : (resetBlock s).rxData = 0 := rfl
@[simp] theorem resetBlock_cmdLen : (resetBlock s).cmdLen = 0 := rfl
@[simp] theorem resetBlock_expLen : (resetBlock s).expLen = 0 := rfl
@[simp] theorem resetBlock_csumReceived : (resetBlock s).csumReceived = 0 := rfl
@[simp] theorem resetBlock_csumComputed : (resetBlock s).csumComputed = 0 := rfl
@[simp] theorem resetBlock_pidBuf : (resetBlock s).pidBuf = Buf8.zero := rfl
@[simp] theorem resetBlock_resBuf : (resetBlock s).resBuf = Buf8.zero := rfl
@[simp] theorem resetBlock_now : (resetBlock s).now = 0 := rfl
@[simp] theorem resetBlock_lastOk : (resetBlock s).lastOk = 0 := rfl
@[simp] theorem resetBlock_phase : (resetBlock s).phase = .idle := rfl
@[simp] theorem resetBlock_locals : (resetBlock s).locals = Locals.empty := rfl
@[simp] theorem resetBlock_txReg : (resetBlock s).txReg = 0 := rfl
@[simp] theorem resetBlock_rxReg : (resetBlock s).rxReg = 0 := rfl
@[simp] theorem resetBlock_tCmdEnd : (resetBlock s).tCmdEnd = 0 := rfl
@[simp] theorem resetBlock_rxAtAccept : (resetBlock s).rxAtAccept = false := rfl
@[simp] theorem resetBlock_rst : (resetBlock s).rst = s.rst := rfl
@[simp] theorem resetBlock_wireTx : (resetBlock s).wireTx = s.wireTx := rfl
@[simp] theorem resetBlock_busData : (resetBlock s).busData = s.busData := rfl
@[simp] theorem resetBlock_script : (resetBlock s).script = s.script := rfl
@[simp] theorem resetBlock_draws : (resetBlock s).draws = s.draws := rfl

end

section

variable (s : State)

@[simp] theorem assertReset_cfg : (assertReset s).cfg = s.cfg := rfl
@[simp] theorem assertReset_cmd : (assertReset s).cmd = 0 := rfl
@[simp] theorem assertReset_busy : (assertReset s).busy = false := rfl
@[simp] theorem assertReset_session : (assertReset s).session = .disconnected := rfl
@[simp] theorem assertReset_lineMode : (assertReset s).lineMode = .gpio := rfl
@[simp] theorem assertReset_kline : (assertReset s).kline = true := rfl
@[simp] theorem assertReset_txFull : (assertReset s).txFull = false := rfl
@[simp] theorem assertReset_rxFull : (assertReset s).rxFull = false := rfl
@[simp] theorem assertReset_rxOverrun : (assertReset s).rxOverrun = false := rfl
@[simp] theorem assertReset_resValid : (assertReset s).resValid = false := rfl
@[simp] theorem assertReset_errKind : (assertReset s).errKind = .none := rfl
@[simp] theorem assertReset_errByte : (assertReset s).errByte = 0 := rfl
@[simp] theorem assertReset_errPos : (assertReset s).errPos = 0 := rfl
@[simp] theorem assertReset_keySync : (assertReset s).keySync = 0 := rfl
@[simp] theorem assertReset_key1 : (assertReset s).key1 = 0 := rfl
@[simp] theorem assertReset_key2 : (assertReset s).key2 = 0 := rfl
@[simp] theorem assertReset_txData : (assertReset s).txData = 0 := rfl
@[simp] theorem assertReset_rxData : (assertReset s).rxData = 0 := rfl
@[simp] theorem assertReset_cmdLen : (assertReset s).cmdLen = 0 := rfl
@[simp] theorem assertReset_expLen : (assertReset s).expLen = 0 := rfl
@[simp] theorem assertReset_csumReceived : (assertReset s).csumReceived = 0 := rfl
@[simp] theorem assertReset_csumComputed : (assertReset s).csumComputed = 0 := rfl
@[simp] theorem assertReset_pidBuf : (assertReset s).pidBuf = Buf8.zero := rfl
@[simp] theorem assertReset_resBuf : (assertReset s).resBuf = Buf8.zero := rfl
@[simp] theorem assertReset_now : (assertReset s).now = 0 := rfl
@[simp] theorem assertReset_lastOk : (assertReset s).lastOk = 0 := rfl
@[simp] theorem assertReset_phase : (assertReset s).phase = .idle := rfl
@[simp] theorem assertReset_locals : (assertReset s).locals = Locals.empty := rfl
@[simp] theorem assertReset_txReg : (assertReset s).txReg = 0 := rfl
@[simp] theorem assertReset_rxReg : (assertReset s).rxReg = 0 := rfl
@[simp] theorem assertReset_tCmdEnd : (assertReset s).tCmdEnd = 0 := rfl
@[simp] theorem assertReset_rxAtAccept : (assertReset s).rxAtAccept = false := rfl
@[simp] theorem assertReset_rst : (assertReset s).rst = true := rfl
@[simp] theorem assertReset_wireTx : (assertReset s).wireTx = s.wireTx := rfl
@[simp] theorem assertReset_busData : (assertReset s).busData = s.busData := rfl
@[simp] theorem assertReset_script : (assertReset s).script = s.script := rfl
@[simp] theorem assertReset_draws : (assertReset s).draws = s.draws := rfl

end

section

variable (s : State)

@[simp] theorem popEvent_cfg : (popEvent s).cfg = s.cfg := by unfold popEvent; split <;> rfl
@[simp] theorem popEvent_cmd : (popEvent s).cmd = s.cmd := by unfold popEvent; split <;> rfl
@[simp] theorem popEvent_busy : (popEvent s).busy = s.busy := by unfold popEvent; split <;> rfl
@[simp] theorem popEvent_session : (popEvent s).session = s.session := by unfold popEvent; split <;> rfl
@[simp] theorem popEvent_lineMode : (popEvent s).lineMode = s.lineMode := by unfold popEvent; split <;> rfl
@[simp] theorem popEvent_kline : (popEvent s).kline = s.kline := by unfold popEvent; split <;> rfl
@[simp] theorem popEvent_txFull : (popEvent s).txFull = s.txFull := by unfold popEvent; split <;> rfl
@[simp] theorem popEvent_rxFull : (popEvent s).rxFull = s.rxFull := by unfold popEvent; split <;> rfl
@[simp] theorem popEvent_rxOverrun : (popEvent s).rxOverrun = s.rxOverrun := by unfold popEvent; split <;> rfl
@[simp] theorem popEvent_resValid : (popEvent s).resValid = s.resValid := by unfold popEvent; split <;> rfl
@[simp] theorem popEvent_errKind : (popEvent s).errKind = s.errKind := by unfold popEvent; split <;> rfl
@[simp] theorem popEvent_errByte : (popEvent s).errByte = s.errByte := by unfold popEvent; split <;> rfl
@[simp] theorem popEvent_errPos : (popEvent s).errPos = s.errPos := by unfold popEvent; split <;> rfl
@[simp] theorem popEvent_keySync : (popEvent s).keySync = s.keySync := by unfold popEvent; split <;> rfl
@[simp] theorem popEvent_key1 : (popEvent s).key1 = s.key1 := by unfold popEvent; split <;> rfl
@[simp] theorem popEvent_key2 : (popEvent s).key2 = s.key2 := by unfold popEvent; split <;> rfl
@[simp] theorem popEvent_txData : (popEvent s).txData = s.txData := by unfold popEvent; split <;> rfl
@[simp] theorem popEvent_rxData : (popEvent s).rxData = s.rxData := by unfold popEvent; split <;> rfl
@[simp] theorem popEvent_cmdLen : (popEvent s).cmdLen = s.cmdLen := by unfold popEvent; split <;> rfl
@[simp] theorem popEvent_expLen : (popEvent s).expLen = s.expLen := by unfold popEvent; split <;> rfl
@[simp] theorem popEvent_csumReceived : (popEvent s).csumReceived = s.csumReceived := by unfold popEvent; split <;> rfl
@[simp] theorem popEvent_csumComputed : (popEvent s).csumComputed = s.csumComputed := by unfold popEvent; split <;> rfl
@[simp] theorem popEvent_pidBuf : (popEvent s).pidBuf = s.pidBuf := by unfold popEvent; split <;> rfl
@[simp] theorem popEvent_resBuf : (popEvent s).resBuf = s.resBuf := by unfold popEvent; split <;> rfl
@[simp] theorem popEvent_now : (popEvent s).now = s.now := by unfold popEvent; split <;> rfl
@[simp] theorem popEvent_lastOk : (popEvent s).lastOk = s.lastOk := by unfold popEvent; split <;> rfl
@[simp] theorem popEvent_phase : (popEvent s).phase = s.phase := by unfold popEvent; split <;> rfl
@[simp] theorem popEvent_locals : (popEvent s).locals = s.locals := by unfold popEvent; split <;> rfl
@[simp] theorem popEvent_txReg : (popEvent s).txReg = s.txReg := by unfold popEvent; split <;> rfl
@[simp] theorem popEvent_rxReg : (popEvent s).rxReg = s.rxReg := by unfold popEvent; split <;> rfl
@[simp] theorem popEvent_tCmdEnd : (popEvent s).tCmdEnd = s.tCmdEnd := by unfold popEvent; split <;> rfl
@[simp] theorem popEvent_rxAtAccept : (popEvent s).rxAtAccept = s.rxAtAccept := by unfold popEvent; split <;> rfl
@[simp] theorem popEvent_rst : (popEvent s).rst = s.rst := by unfold popEvent; split <;> rfl
@[simp] theorem popEvent_wireTx : (popEvent s).wireTx = s.wireTx := by unfold popEvent; split <;> rfl
@[simp] theorem popEvent_busData : (popEvent s).busData = s.busData := by unfold popEvent; split <;> rfl

end

/-- The operand counts are read from `FRAMECFG` (R96); simp writes them as its fields. -/
@[simp] theorem State.n_eq (s : State) : s.n = s.cmdLen.toNat := rfl
@[simp] theorem State.e_eq (s : State) : s.e = s.expLen.toNat := rfl

section

variable (p : Phase) (s : State)

@[simp] theorem wakeBegin_kline : (wakeBegin p s).kline = wakeLevel s.cfg 0 := rfl
@[simp] theorem wakeBegin_phase : (wakeBegin p s).phase = p := rfl
@[simp] theorem wakeBegin_locals : (wakeBegin p s).locals = { s.locals with idx := 0, t0 := s.now } := rfl
@[simp] theorem wakeBegin_cfg : (wakeBegin p s).cfg = s.cfg := rfl
@[simp] theorem wakeBegin_cmd : (wakeBegin p s).cmd = s.cmd := rfl
@[simp] theorem wakeBegin_busy : (wakeBegin p s).busy = s.busy := rfl
@[simp] theorem wakeBegin_session : (wakeBegin p s).session = s.session := rfl
@[simp] theorem wakeBegin_lineMode : (wakeBegin p s).lineMode = s.lineMode := rfl
@[simp] theorem wakeBegin_txFull : (wakeBegin p s).txFull = s.txFull := rfl
@[simp] theorem wakeBegin_rxFull : (wakeBegin p s).rxFull = s.rxFull := rfl
@[simp] theorem wakeBegin_rxOverrun : (wakeBegin p s).rxOverrun = s.rxOverrun := rfl
@[simp] theorem wakeBegin_resValid : (wakeBegin p s).resValid = s.resValid := rfl
@[simp] theorem wakeBegin_errKind : (wakeBegin p s).errKind = s.errKind := rfl
@[simp] theorem wakeBegin_errByte : (wakeBegin p s).errByte = s.errByte := rfl
@[simp] theorem wakeBegin_errPos : (wakeBegin p s).errPos = s.errPos := rfl
@[simp] theorem wakeBegin_keySync : (wakeBegin p s).keySync = s.keySync := rfl
@[simp] theorem wakeBegin_key1 : (wakeBegin p s).key1 = s.key1 := rfl
@[simp] theorem wakeBegin_key2 : (wakeBegin p s).key2 = s.key2 := rfl
@[simp] theorem wakeBegin_txData : (wakeBegin p s).txData = s.txData := rfl
@[simp] theorem wakeBegin_rxData : (wakeBegin p s).rxData = s.rxData := rfl
@[simp] theorem wakeBegin_cmdLen : (wakeBegin p s).cmdLen = s.cmdLen := rfl
@[simp] theorem wakeBegin_expLen : (wakeBegin p s).expLen = s.expLen := rfl
@[simp] theorem wakeBegin_csumReceived : (wakeBegin p s).csumReceived = s.csumReceived := rfl
@[simp] theorem wakeBegin_csumComputed : (wakeBegin p s).csumComputed = s.csumComputed := rfl
@[simp] theorem wakeBegin_pidBuf : (wakeBegin p s).pidBuf = s.pidBuf := rfl
@[simp] theorem wakeBegin_resBuf : (wakeBegin p s).resBuf = s.resBuf := rfl
@[simp] theorem wakeBegin_now : (wakeBegin p s).now = s.now := rfl
@[simp] theorem wakeBegin_lastOk : (wakeBegin p s).lastOk = s.lastOk := rfl
@[simp] theorem wakeBegin_txReg : (wakeBegin p s).txReg = s.txReg := rfl
@[simp] theorem wakeBegin_rxReg : (wakeBegin p s).rxReg = s.rxReg := rfl
@[simp] theorem wakeBegin_tCmdEnd : (wakeBegin p s).tCmdEnd = s.tCmdEnd := rfl
@[simp] theorem wakeBegin_rxAtAccept : (wakeBegin p s).rxAtAccept = s.rxAtAccept := rfl
@[simp] theorem wakeBegin_rst : (wakeBegin p s).rst = s.rst := rfl
@[simp] theorem wakeBegin_wireTx : (wakeBegin p s).wireTx = s.wireTx := rfl
@[simp] theorem wakeBegin_busData : (wakeBegin p s).busData = s.busData := rfl
@[simp] theorem wakeBegin_script : (wakeBegin p s).script = s.script := rfl
@[simp] theorem wakeBegin_draws : (wakeBegin p s).draws = s.draws := rfl

end

section

variable (s : State)

@[simp] theorem commitResults_resValid : (commitResults s).resValid = true := rfl
@[simp] theorem commitResults_lastOk : (commitResults s).lastOk = s.now := rfl
@[simp] theorem commitResults_tCmdEnd : (commitResults s).tCmdEnd = s.now := rfl
@[simp] theorem commitResults_rxAtAccept : (commitResults s).rxAtAccept = s.rxAtAccept := rfl
@[simp] theorem commitResults_cfg : (commitResults s).cfg = s.cfg := rfl
@[simp] theorem commitResults_cmd : (commitResults s).cmd = s.cmd := rfl
@[simp] theorem commitResults_busy : (commitResults s).busy = s.busy := rfl
@[simp] theorem commitResults_session : (commitResults s).session = s.session := rfl
@[simp] theorem commitResults_lineMode : (commitResults s).lineMode = s.lineMode := rfl
@[simp] theorem commitResults_kline : (commitResults s).kline = s.kline := rfl
@[simp] theorem commitResults_txFull : (commitResults s).txFull = s.txFull := rfl
@[simp] theorem commitResults_rxFull : (commitResults s).rxFull = s.rxFull := rfl
@[simp] theorem commitResults_rxOverrun : (commitResults s).rxOverrun = s.rxOverrun := rfl
@[simp] theorem commitResults_errKind : (commitResults s).errKind = s.errKind := rfl
@[simp] theorem commitResults_errByte : (commitResults s).errByte = s.errByte := rfl
@[simp] theorem commitResults_errPos : (commitResults s).errPos = s.errPos := rfl
@[simp] theorem commitResults_keySync : (commitResults s).keySync = s.keySync := rfl
@[simp] theorem commitResults_key1 : (commitResults s).key1 = s.key1 := rfl
@[simp] theorem commitResults_key2 : (commitResults s).key2 = s.key2 := rfl
@[simp] theorem commitResults_txData : (commitResults s).txData = s.txData := rfl
@[simp] theorem commitResults_rxData : (commitResults s).rxData = s.rxData := rfl
@[simp] theorem commitResults_cmdLen : (commitResults s).cmdLen = s.cmdLen := rfl
@[simp] theorem commitResults_expLen : (commitResults s).expLen = s.expLen := rfl
@[simp] theorem commitResults_csumReceived : (commitResults s).csumReceived = s.csumReceived := rfl
@[simp] theorem commitResults_csumComputed : (commitResults s).csumComputed = s.csumComputed := rfl
@[simp] theorem commitResults_pidBuf : (commitResults s).pidBuf = s.pidBuf := rfl
@[simp] theorem commitResults_now : (commitResults s).now = s.now := rfl
@[simp] theorem commitResults_phase : (commitResults s).phase = s.phase := rfl
@[simp] theorem commitResults_locals : (commitResults s).locals = s.locals := rfl
@[simp] theorem commitResults_txReg : (commitResults s).txReg = s.txReg := rfl
@[simp] theorem commitResults_rxReg : (commitResults s).rxReg = s.rxReg := rfl
@[simp] theorem commitResults_rst : (commitResults s).rst = s.rst := rfl
@[simp] theorem commitResults_wireTx : (commitResults s).wireTx = s.wireTx := rfl
@[simp] theorem commitResults_busData : (commitResults s).busData = s.busData := rfl
@[simp] theorem commitResults_script : (commitResults s).script = s.script := rfl
@[simp] theorem commitResults_draws : (commitResults s).draws = s.draws := rfl

end

end Sys2Proof.Machine
end

