-- ==== Sys2Proof/Laws/Ops.lean ====
section
/-!
SUPPORT. One lemma per shared operation that says everything it can do, and the frames of the engine's segments:
what later proofs cite instead of unfolding the operation.
-/
namespace Sys2Proof.Machine

/-! ## Buffers and frames -/

theorem buf8_get_ofFn (f : Nat → Byte) {i : Nat} (h : i < 8) : (Buf8.ofFn f).get i = f i := by
  rcases i with _ | _ | _ | _ | _ | _ | _ | _ | i <;> first | rfl | omega

theorem buf8_get_of_le (b : Buf8) {i : Nat} (h : 8 ≤ i) : b.get i = 0 := by
  rcases i with _ | _ | _ | _ | _ | _ | _ | _ | i <;> first | rfl | omega

theorem storeWord_get (size : Nat) (b : Buf8) (k : Nat) (v : Word) {i : Nat} (h : i < 8) :
    (storeWord size b k v).get i = if i / 4 = k ∧ i < size then byteOfWord v (i % 4) else b.get i :=
  buf8_get_ofFn _ h

@[simp] theorem pidBytes_length (b : Buf8) (n : Nat) : (pidBytes b n).length = n := by simp [pidBytes]

@[simp] theorem bitCells_length (b : Byte) : (bitCells b).length = 10 := rfl

/-! ## Conditions -/

theorem waited_iff (n : Nat) (s : State) : waited n s = true ↔ n ≤ elapsed s s.locals.t0 := by simp [waited]

theorem gapPassed_iff (s : State) : gapPassed s = true ↔ s.cfg.tReq ≤ elapsed s s.tCmdEnd := by simp [gapPassed]

theorem timedOut_iff (s : State) :
    timedOut s = true ↔ 0 < s.cfg.rxTimeout ∧ s.cfg.rxTimeout ≤ elapsed s s.locals.t0 := by simp [timedOut]

/-- A hold point that has just been reached has waited for no time. -/
@[simp] theorem elapsed_hold (p : Phase) (s : State) : elapsed (hold p s) (hold p s).locals.t0 = 0 := by
  simp [elapsed]

/-- A receive that has just been reached has not run out of time. -/
@[simp] theorem timedOut_hold (p : Phase) (s : State) : timedOut (hold p s) = false := by
  rw [timedOut, elapsed_hold]
  rcases Nat.eq_zero_or_pos (hold p s).cfg.rxTimeout with h | h
  · exact Bool.and_eq_false_iff.mpr (.inl (decide_eq_false (by omega)))
  · exact Bool.and_eq_false_iff.mpr (.inr (decide_eq_false (by omega)))

/-! ## Hold points -/

theorem onWait_cases (n : Nat) (k : State → State) (s : State) :
    (waited n s = true ∧ onWait n k s = k s) ∨ (waited n s = false ∧ onWait n k s = s) := by
  cases h : waited n s <;> simp [onWait, h]

theorem onGap_cases (k : State → State) (s : State) :
    (gapPassed s = true ∧ onGap k s = k s) ∨ (gapPassed s = false ∧ onGap k s = s) := by
  cases h : gapPassed s <;> simp [onGap, h]

theorem onTx_cases (b : Byte) (k : State → State) (s : State) :
    (s.txFull = false ∧ onTx b k s = k { s with txReg := b, txFull := true })
      ∨ (s.txFull = true ∧ onTx b k s = s) := by
  cases h : s.txFull <;> simp [onTx, h]

theorem onRx_cases (late : State → State) (got : Byte → State → State) (s : State) :
    (s.rxFull = true ∧ onRx late got s = got s.rxReg { s with rxFull := false })
      ∨ (s.rxFull = false ∧ timedOut s = true ∧ onRx late got s = late s)
      ∨ (s.rxFull = false ∧ timedOut s = false ∧ onRx late got s = s) := by
  cases h : s.rxFull <;> cases h' : timedOut s <;> simp [onRx, h, h']

theorem wakeNext_cases (p : Phase) (done : State → State) (s : State) :
    (s.locals.idx < 9
        ∧ wakeNext p done s = hold p (drive (wakeLevel s.cfg (s.locals.idx + 1)) (setIdx (s.locals.idx + 1) s)))
      ∨ (9 ≤ s.locals.idx ∧ wakeNext p done s = done s) := by
  rcases Nat.lt_or_ge s.locals.idx 9 with h | h
  · exact .inl ⟨h, if_pos h⟩
  · exact .inr ⟨h, if_neg (by omega)⟩

/-! ## What each segment can do -/

theorem connectStart_cases (s : State) :
    (s.session = .disconnected
        ∧ connectStart s = hold .connectIdle (drive true (enterGpio { s with session := .initializing })))
      ∨ (s.session ≠ .disconnected ∧ connectStart s = raiseError .stateError 0x00 0x00 s) := by
  unfold connectStart; split <;> simp_all

theorem wakeupStart_cases (s : State) :
    ((s.session = .disconnected ∨ s.session = .faulted)
        ∧ wakeupStart s = wakeBegin .wakeCell (enterGpio s))
      ∨ (s.session ≠ .disconnected ∧ s.session ≠ .faulted
        ∧ wakeupStart s = raiseError .stateError 0x00 0x00 s) := by
  unfold wakeupStart; split <;> simp_all

theorem sendGotResponse_cases (y : Byte) (s : State) :
    (s.locals.idx < 3 + s.n + s.e ∧
        ((∃ k, responseCheck s.cfg s.pidBuf s.n s.e s.locals.idx y = some k
            ∧ sendGotResponse y s = endCmd k y (posByte s.locals.idx) s)
          ∨ (responseCheck s.cfg s.pidBuf s.n s.e s.locals.idx y = none
            ∧ sendGotResponse y s = hold .sendResp { s with locals := { s.locals with
                idx := s.locals.idx + 1, received := s.locals.received ++ [y] } })))
      ∨ (3 + s.n + s.e ≤ s.locals.idx ∧ sendGotResponse y s = sendGotChecksum y s) := by
  rcases Nat.lt_or_ge s.locals.idx (3 + s.n + s.e) with h | h
  · refine .inl ⟨h, ?_⟩
    cases hk : responseCheck s.cfg s.pidBuf s.n s.e s.locals.idx y with
    | none => exact .inr ⟨rfl, by rw [sendGotResponse, if_pos h, hk]⟩
    | some k => exact .inl ⟨k, rfl, by rw [sendGotResponse, if_pos h, hk]⟩
  · exact .inr ⟨h, by rw [sendGotResponse, if_neg (by omega)]⟩

theorem sendGotChecksum_cases (c : Byte) (s : State) :
    (s.cfg.verifyRxChecksum = true ∧ c ≠ checksum s.locals.received
        ∧ sendGotChecksum c s = endCmd .checksumMismatch c (posByte (3 + s.n + s.e))
            { s with csumComputed := checksum s.locals.received, csumReceived := c })
      ∨ ((s.cfg.verifyRxChecksum = false ∨ c = checksum s.locals.received)
        ∧ sendGotChecksum c s = finish (commitResults
            { s with csumComputed := checksum s.locals.received, csumReceived := c })) := by
  unfold sendGotChecksum
  by_cases h : s.cfg.verifyRxChecksum = true ∧ c ≠ checksum s.locals.received
  · exact .inl ⟨h.1, h.2, if_pos h⟩
  · refine .inr ⟨?_, if_neg h⟩
    cases hv : s.cfg.verifyRxChecksum
    · exact .inl rfl
    · exact .inr (by_contra fun hc => h ⟨hv, hc⟩)

/-! ## Where a command can stand -/

/-- A command that answers a next state stands at its start or at a hold point of its own, unless it has none
(R122). -/
theorem exec_phase {i : Instr} {s t : State} (h : exec i s = .next t) :
    i = .nop ∨ i = .disconnect ∨ s.phase = .idle ∨ s.phase = .start ∨ s.phase.owner = some i := by
  cases i <;> cases hp : s.phase <;>
    simp_all [exec, execWakeup, execTransmit, execReceive, execConnect, execSendCmd, Phase.owner]

/-- A command at its start or at a hold point of its own answers a next state (R122). -/
theorem exec_answers {i : Instr} {s : State} (h : s.phase = .start ∨ s.phase.owner = some i) :
    ∃ t, exec i s = .next t := by
  rcases h with h | h
  · cases i <;> simp [exec, execNop, execWakeup, execTransmit, execReceive, execConnect, execSendCmd,
      execDisconnect, h]
  · cases hp : s.phase <;> simp_all [Phase.owner] <;> subst h <;>
      simp [exec, execWakeup, execTransmit, execReceive, execConnect, execSendCmd, hp]

/-! ## What every segment leaves unchanged -/

/-- What a segment of any command leaves as it was: the parameters, the operands, the time, the ports and the
agents' coming moves; and it ends a command only by going to Idle (R44, R122, R123, R246). -/
structure SegmentFrame (s t : State) : Prop where
  cfg : t.cfg = s.cfg
  cmd : t.cmd = s.cmd
  txData : t.txData = s.txData
  cmdLen : t.cmdLen = s.cmdLen
  expLen : t.expLen = s.expLen
  pidBuf : t.pidBuf = s.pidBuf
  now : t.now = s.now
  rxReg : t.rxReg = s.rxReg
  rxOverrun : t.rxOverrun = s.rxOverrun
  rxAtAccept : t.rxAtAccept = s.rxAtAccept
  rst : t.rst = s.rst
  wireTx : t.wireTx = s.wireTx
  busData : t.busData = s.busData
  script : t.script = s.script
  draws : t.draws = s.draws
  rxFull : t.rxFull = true → s.rxFull = true
  ends : t.busy = s.busy ∨ (t.busy = false ∧ t.phase = .idle)

theorem SegmentFrame.refl (s : State) : SegmentFrame s s := by constructor <;> simp

theorem execWakeup_segmentFrame {s t : State} (h : execWakeup s = .next t) : SegmentFrame s t := by
  unfold execWakeup at h
  split at h <;> cases h
  case h_1 | h_2 => rcases wakeupStart_cases s with ⟨_, e⟩ | ⟨_, _, e⟩ <;> rw [e] <;> constructor <;> simp
  case h_3 =>
    rcases onWait_cases s.cfg.tBit (wakeNext .wakeCell finish) s with ⟨_, e⟩ | ⟨_, e⟩ <;> rw [e]
    · rcases wakeNext_cases .wakeCell finish s with ⟨_, e⟩ | ⟨_, e⟩ <;> rw [e] <;> constructor <;> simp
    · exact .refl s

theorem execTransmit_segmentFrame {s t : State} (h : execTransmit s = .next t) : SegmentFrame s t := by
  unfold execTransmit at h
  split at h <;> cases h
  case h_1 | h_2 => unfold transmitStart; split <;> constructor <;> simp
  case h_3 => rcases onTx_cases s.txData finish s with ⟨_, e⟩ | ⟨_, e⟩ <;> rw [e] <;> constructor <;> simp

theorem receiveByte_segmentFrame (s : State) : SegmentFrame s (receiveByte s) := by
  rcases onRx_cases (raiseError .timeout 0x00 0x00) (fun b t => finish { t with rxData := b }) s
    with ⟨_, e⟩ | ⟨_, _, e⟩ | ⟨_, _, e⟩ <;> rw [receiveByte, e] <;> constructor <;> simp_all

theorem execReceive_segmentFrame {s t : State} (h : execReceive s = .next t) : SegmentFrame s t := by
  unfold execReceive at h
  split at h <;> cases h
  case h_1 | h_2 =>
    unfold receiveStart
    split
    · split
      · have f := receiveByte_segmentFrame (hold .receiveRx s)
        exact ⟨f.cfg, f.cmd, f.txData, f.cmdLen, f.expLen, f.pidBuf, f.now, f.rxReg, f.rxOverrun, f.rxAtAccept, f.rst, f.wireTx,
          f.busData, f.script, f.draws, f.rxFull, f.ends⟩
      · constructor <;> simp
    · constructor <;> simp
  case h_3 => exact receiveByte_segmentFrame s

theorem execConnect_segmentFrame {s t : State} (h : execConnect s = .next t) : SegmentFrame s t := by
  unfold execConnect at h
  split at h <;> cases h
  case h_1 | h_2 => rcases connectStart_cases s with ⟨_, e⟩ | ⟨_, e⟩ <;> rw [e] <;> constructor <;> simp
  case h_3 =>
    rcases onWait_cases s.cfg.tIdle (wakeBegin .connectCell) s with ⟨_, e⟩ | ⟨_, e⟩ <;> rw [e] <;> constructor
      <;> simp
  case h_4 =>
    rcases onWait_cases s.cfg.tBit (wakeNext .connectCell connectToUart) s with ⟨_, e⟩ | ⟨_, e⟩ <;> rw [e]
    · rcases wakeNext_cases .connectCell connectToUart s with ⟨_, e⟩ | ⟨_, e⟩ <;> rw [e] <;> constructor
        <;> simp [connectToUart]
    · exact .refl s
  case h_5 =>
    rcases onRx_cases (hsFail .timeout 0x00 3) connectGotSync s with ⟨_, e⟩ | ⟨_, _, e⟩ | ⟨_, _, e⟩ <;> rw [e]
    · unfold connectGotSync; split <;> constructor <;> simp
    all_goals constructor <;> simp
  case h_6 =>
    rcases onRx_cases (hsFail .timeout 0x00 4) connectGotKey1 s with ⟨_, e⟩ | ⟨_, _, e⟩ | ⟨_, _, e⟩ <;> rw [e]
      <;> constructor <;> simp [connectGotKey1]
  case h_7 =>
    rcases onRx_cases (hsFail .timeout 0x00 4) connectGotKey2 s with ⟨_, e⟩ | ⟨_, _, e⟩ | ⟨_, _, e⟩ <;> rw [e]
      <;> constructor <;> simp [connectGotKey2]
  case h_8 =>
    rcases onWait_cases s.cfg.tW4 (hold .connectTx) s with ⟨_, e⟩ | ⟨_, e⟩ <;> rw [e] <;> constructor <;> simp
  case h_9 =>
    rcases onTx_cases (~~~s.key2) connectSentAck s with ⟨_, e⟩ | ⟨_, e⟩ <;> rw [e]
    · unfold connectSentAck; split <;> constructor <;> simp
    · exact .refl s
  case h_10 =>
    rcases onRx_cases (hsFail .timeout 0x00 5) connectGotEcho s with ⟨_, e⟩ | ⟨_, _, e⟩ | ⟨_, _, e⟩ <;> rw [e]
    · unfold connectGotEcho; split <;> constructor <;> simp
    all_goals constructor <;> simp
  case h_11 =>
    rcases onWait_cases s.cfg.tW5 (hold .connectAck) s with ⟨_, e⟩ | ⟨_, e⟩ <;> rw [e] <;> constructor <;> simp
  case h_12 =>
    rcases onRx_cases (hsFail .timeout 0x00 6) connectGotAck s with ⟨_, e⟩ | ⟨_, _, e⟩ | ⟨_, _, e⟩ <;> rw [e]
    · unfold connectGotAck; split <;> constructor <;> simp
    all_goals constructor <;> simp

theorem execSendCmd_segmentFrame {s t : State} (h : execSendCmd s = .next t) : SegmentFrame s t := by
  unfold execSendCmd at h
  split at h <;> cases h
  case h_1 | h_2 =>
    unfold sendStart
    dsimp only
    split
    · split <;> constructor <;> simp
    · constructor <;> simp
  case h_3 =>
    rcases onGap_cases sendAfterGap s with ⟨_, e⟩ | ⟨_, e⟩ <;> rw [e]
    · unfold sendAfterGap; split <;> constructor <;> simp
    · exact .refl s
  case h_4 =>
    rcases onWait_cases s.cfg.tByte (hold .sendTx) s with ⟨_, e⟩ | ⟨_, e⟩ <;> rw [e] <;> constructor <;> simp
  case h_5 =>
    rcases onTx_cases (frameByte s) (hold .sendEcho) s with ⟨_, e⟩ | ⟨_, e⟩ <;> rw [e] <;> constructor <;> simp
  case h_6 =>
    rcases onRx_cases (endCmd .timeout 0x00 (posByte s.locals.idx)) sendGotEcho s
      with ⟨_, e⟩ | ⟨_, _, e⟩ | ⟨_, _, e⟩ <;> rw [e]
    · unfold sendGotEcho; split
      · split <;> constructor <;> simp
      · constructor <;> simp
    all_goals constructor <;> simp
  case h_7 =>
    rcases onRx_cases (endCmd .timeout 0x00 (0x80 + posByte s.locals.idx)) sendGotResponse s
      with ⟨_, e⟩ | ⟨_, _, e⟩ | ⟨_, _, e⟩ <;> rw [e]
    · rcases sendGotResponse_cases s.rxReg { s with rxFull := false } with ⟨_, ⟨k, _, e⟩ | ⟨_, e⟩⟩ | ⟨_, e⟩
      · rw [e]; constructor <;> simp
      · rw [e]; constructor <;> simp
      · rw [e]
        rcases sendGotChecksum_cases s.rxReg { s with rxFull := false } with ⟨_, _, e⟩ | ⟨_, e⟩ <;> rw [e]
          <;> constructor <;> simp
    all_goals constructor <;> simp

/-- The frame of every segment of every command. -/
theorem exec_segmentFrame {i : Instr} {s t : State} (h : exec i s = .next t) : SegmentFrame s t := by
  cases i with
  | nop => cases h; constructor <;> simp
  | wakeup => exact execWakeup_segmentFrame h
  | transmit => exact execTransmit_segmentFrame h
  | receive => exact execReceive_segmentFrame h
  | connect => exact execConnect_segmentFrame h
  | sendCmd => exact execSendCmd_segmentFrame h
  | disconnect => cases h; constructor <;> simp

end Sys2Proof.Machine
end

