-- ==== Sys2Proof/Laws/PerInstr.lean ====
section
/-!
SUPPORT. Statements for all instructions, one lemma per constructor.
-/
namespace Sys2Proof.Laws.EncodeFields

/-- The word of a command has `RSVD` = 0 and the command's number in `OPCODE` (R90, R93), and the opcode map gives
the command back from that number. -/
def Statement (i : Instr) : Prop :=
  rsvdField (encode i) = 0 ∧ opcodeField (encode i) = opcodeOf i ∧ wordWellFormed (encode i) = true
    ∧ commandOfOpcode (opcodeOf i).toNat = some i

theorem nop : Statement .nop := by unfold Statement; decide

theorem wakeup : Statement .wakeup := by unfold Statement; decide

theorem transmit : Statement .transmit := by unfold Statement; decide

theorem receive : Statement .receive := by unfold Statement; decide

theorem connect : Statement .connect := by unfold Statement; decide

theorem sendCmd : Statement .sendCmd := by unfold Statement; decide

theorem disconnect : Statement .disconnect := by unfold Statement; decide

end Sys2Proof.Laws.EncodeFields
end

