-- ==== Sys2Proof/Laws/Step.lean ====
section
/-!
SUPPORT. Everything one step of the machine can do, said once: which agent moved, when it could, and what came of
it.
-/
namespace Sys2Proof.Machine

theorem engineMoves_iff (s : State) : engineMoves s = true
    ↔ s.rst = false ∧ engineEnabled s = true ∧ (nextEvent s = .engine ∨ nextEvent s = .tick) := by
  simp [engineMoves, and_assoc]

theorem engineEnabled_iff (s : State) : engineEnabled s = true ↔ s.busy = true ∧ holdReady s = true := by
  simp [engineEnabled]

/-- `popEvent` changes the model's own two fields and no other. -/
theorem popEvent_eq (s : State) :
    popEvent s = { s with script := (popEvent s).script, draws := (popEvent s).draws } := by
  unfold popEvent; split <;> rfl

/-- The engine's condition does not depend on the agents' coming moves. -/
@[simp] theorem engineEnabled_popEvent (s : State) : engineEnabled (popEvent s) = engineEnabled s := by
  unfold popEvent; split <;> rfl

theorem engineStep_cases {s t : State} (h : engineStep s = .next t) :
    (∃ i, decode s.cmd = .command i ∧ exec i s = .next t)
      ∨ (∃ why, decode s.cmd = .illegal why ∧ t = illegalCommand s) := by
  unfold engineStep at h
  split at h
  · exact .inl ⟨_, ‹_›, h⟩
  · cases h; exact .inr ⟨_, ‹_›, rfl⟩

/-- The frame of every engine step. -/
theorem engineStep_segmentFrame {s t : State} (h : engineStep s = .next t) : SegmentFrame s t := by
  rcases engineStep_cases h with ⟨i, _, h⟩ | ⟨_, _, rfl⟩
  · exact exec_segmentFrame h
  · unfold illegalCommand; constructor <;> simp

theorem onAccess_cases (addr : Word) (k : Reg → State) :
    (0x40 ≤ addr.toNat ∧ onAccess addr k = .refused .offsetOutsideSpace)
      ∨ (addr.toNat < 0x40 ∧ addr.toNat % 4 ≠ 0 ∧ onAccess addr k = .refused .misalignedAccess)
      ∨ (addr.toNat < 0x40 ∧ addr.toNat % 4 = 0 ∧ onAccess addr k = .next (k (regAt addr))) := by
  unfold onAccess
  split
  · exact .inl ⟨‹_›, rfl⟩
  · split
    · exact .inr (.inl ⟨by omega, ‹_›, rfl⟩)
    · exact .inr (.inr ⟨by omega, by omega, rfl⟩)

/-- What an answered host access was, and what it gave. -/
theorem onAccess_next {addr : Word} {k : Reg → State} {t : State} (h : onAccess addr k = .next t) :
    accessWellFormed addr = true ∧ t = k (regAt addr) := by
  rcases onAccess_cases addr k with ⟨_, e⟩ | ⟨_, _, e⟩ | ⟨h1, h2, e⟩ <;> rw [e] at h <;> cases h
  exact ⟨by simp [accessWellFormed, h1, h2], rfl⟩

/-- A write that reaches the register file: lost while a command runs; otherwise an operand, an accepted command,
or nothing. -/
theorem writeReg_cases (r : Reg) (v : Word) (s : State) :
    (s.busy = true ∧ writeReg r v s = s)
      ∨ (s.busy = false ∧ r = .cmd ∧ writeReg r v s = accept v s)
      ∨ (s.busy = false ∧ r = .txData ∧ writeReg r v s = { s with txData := v.extractLsb' 0 8 })
      ∨ (s.busy = false ∧ r = .frameCfg
        ∧ writeReg r v s = { s with cmdLen := v.extractLsb' 0 4, expLen := v.extractLsb' 8 4 })
      ∨ (s.busy = false ∧ ∃ k, writeReg r v s = { s with pidBuf := storeWord s.cfg.pidBufSize s.pidBuf k v })
      ∨ (s.busy = false ∧ writeReg r v s = s) := by
  rcases Bool.eq_false_or_eq_true s.busy with hb | hb
  · exact .inl ⟨hb, by simp [writeReg, hb]⟩
  · have e : writeReg r v s = storeReg r v s := by simp [writeReg, hb]
    rw [e]
    cases r
    case cmd => exact .inr (.inl ⟨hb, rfl, rfl⟩)
    case txData => exact .inr (.inr (.inl ⟨hb, rfl, rfl⟩))
    case frameCfg => exact .inr (.inr (.inr (.inl ⟨hb, rfl, rfl⟩)))
    case pidBuf0 => exact .inr (.inr (.inr (.inr (.inl ⟨hb, 0, rfl⟩))))
    case pidBuf1 => exact .inr (.inr (.inr (.inr (.inl ⟨hb, 1, rfl⟩))))
    all_goals exact .inr (.inr (.inr (.inr (.inr ⟨hb, rfl⟩))))

/-- Every move that answers a next state is one of these. -/
theorem move_cases {e : Event} {s t : State} (h : move e s = .next t) :
    (s.rst = true ∧ t = moveInReset e (popEvent s))
      ∨ (s.rst = false ∧ engineEnabled s = true ∧ e = .engine ∧ engineStep (popEvent s) = .next t)
      ∨ (s.rst = false ∧ engineEnabled s = true ∧ e = .tick ∧ engineStep s = .next t)
      ∨ (s.rst = false ∧ e = .engine ∧ engineEnabled s = false ∧ t = popEvent s)
      ∨ (s.rst = false ∧ e = .tick ∧ engineEnabled s = false ∧ t = tick (popEvent s))
      ∨ (s.rst = false ∧ e = .serialize ∧ t = serialize (popEvent s))
      ∨ (s.rst = false ∧ ∃ x, e = .deliver x ∧ t = deliver x (popEvent s))
      ∨ (s.rst = false ∧ ∃ a, e = .hostRead a ∧ accessWellFormed a = true
        ∧ t = { popEvent s with busData := readReg (popEvent s) (regAt a) })
      ∨ (s.rst = false ∧ ∃ a v, e = .hostWrite a v ∧ accessWellFormed a = true
        ∧ t = writeReg (regAt a) v (popEvent s))
      ∨ (s.rst = false ∧ e = .rstAssert ∧ t = assertReset (popEvent s))
      ∨ (s.rst = false ∧ e = .rstRelease ∧ t = popEvent s) := by
  unfold move at h
  cases hr : s.rst <;> simp only [hr, Bool.false_eq_true, if_false, if_true] at h
  · cases e <;> simp only at h
    case engine =>
      cases he : engineEnabled s <;> simp only [he, Bool.false_eq_true, if_false, if_true] at h
      · cases h; simp
      · simp [h]
    case tick =>
      cases he : engineEnabled s <;> simp only [he, Bool.false_eq_true, if_false, if_true] at h
      · cases h; simp
      · simp [h]
    case hostRead a => have := onAccess_next h; simp [this]
    case hostWrite a v => have := onAccess_next h; simp [this]
    all_goals cases h; simp
  · cases h; simp

/-- Every step that answers a next state is one of these: `move_cases` for the move that comes next. -/
theorem step_cases {s t : State} (h : step s = .next t) :
    (s.rst = true ∧ t = moveInReset (nextEvent s) (popEvent s))
      ∨ (engineMoves s = true ∧ nextEvent s = .engine ∧ engineStep (popEvent s) = .next t)
      ∨ (engineMoves s = true ∧ nextEvent s = .tick ∧ engineStep s = .next t)
      ∨ (s.rst = false ∧ nextEvent s = .engine ∧ engineEnabled s = false ∧ t = popEvent s)
      ∨ (s.rst = false ∧ nextEvent s = .tick ∧ engineEnabled s = false ∧ t = tick (popEvent s))
      ∨ (s.rst = false ∧ nextEvent s = .serialize ∧ t = serialize (popEvent s))
      ∨ (s.rst = false ∧ ∃ x, nextEvent s = .deliver x ∧ t = deliver x (popEvent s))
      ∨ (s.rst = false ∧ ∃ a, nextEvent s = .hostRead a ∧ accessWellFormed a = true
        ∧ t = { popEvent s with busData := readReg (popEvent s) (regAt a) })
      ∨ (s.rst = false ∧ ∃ a v, nextEvent s = .hostWrite a v ∧ accessWellFormed a = true
        ∧ t = writeReg (regAt a) v (popEvent s))
      ∨ (s.rst = false ∧ nextEvent s = .rstAssert ∧ t = assertReset (popEvent s))
      ∨ (s.rst = false ∧ nextEvent s = .rstRelease ∧ t = popEvent s) := by
  rcases move_cases h with h | ⟨hr, he, hn, h⟩ | ⟨hr, he, hn, h⟩ | h
  · exact .inl h
  · exact .inr (.inl ⟨(engineMoves_iff s).2 ⟨hr, he, .inl hn⟩, hn, h⟩)
  · exact .inr (.inr (.inl ⟨(engineMoves_iff s).2 ⟨hr, he, .inr hn⟩, hn, h⟩))
  · exact .inr (.inr (.inr h))

end Sys2Proof.Machine
end

