-- ==== Sys2Proof/Laws/Runs.lean ====
section
/-!
SUPPORT. Endless runs: the machine's own run is one, and fairness in the form "what stays enabled is taken".
-/
namespace Sys2Proof.Machine

/-- The run of `step` is the run whose moves are those that come next. -/
theorem isStepRun_iff (s : Nat → State) : IsStepRun s ↔ ∀ k, step (s k) = .next (s (k + 1)) := Iff.rfl

theorem tickEnabled_iff (s : State) : tickEnabled s = true ↔ s.rst = false ∧ engineEnabled s = false := by
  simp [tickEnabled]

theorem takesTick_iff (e : Event) (s : State) :
    takesTick e s = true ↔ e = .tick ∧ s.rst = false ∧ engineEnabled s = false := by
  simp [takesTick, tickEnabled_iff]

/-- A move that takes a tick adds one to `NOW` (R255). -/
theorem move_takesTick {e : Event} {s : State} (h : takesTick e s = true) :
    move e s = .next (tick (popEvent s)) := by
  obtain ⟨rfl, hr, he⟩ := (takesTick_iff e s).1 h
  simp [move, hr, he]

/-- Weak fairness of the Time base: if a tick stays enabled from some point on, one is taken. -/
theorem TimeBaseFair.weakly {moves : Nat → Event} {s : Nat → State} (h : TimeBaseFair moves s) {k : Nat}
    (he : ∀ j, k ≤ j → tickEnabled (s j) = true) : ∃ j, k ≤ j ∧ takesTick (moves j) (s j) = true := by
  obtain ⟨j, hj, ht | hr⟩ := h k
  · exact ⟨j, hj, ht⟩
  · simp [tickEnabled] at he
    exact absurd hr (by simp [(he j hj).1])

/-- Weak fairness of the Serializer: a byte does not wait in the transmit buffer for ever. -/
theorem SerializerFair.weakly {s : Nat → State} (h : SerializerFair s) (k : Nat) :
    ¬ ∀ j, k ≤ j → (s j).txFull = true := by
  intro hf
  obtain ⟨j, hj, he⟩ := h k (hf k (Nat.le_refl k))
  exact Bool.false_ne_true (he.symm.trans (hf j hj))

end Sys2Proof.Machine
end

