-- ==== Sys2Proof/Laws/Segments.lean ====
section
/-!
SUPPORT. Every outcome of one engine segment of a command, said once per command: at which hold point it stood,
under which condition it went on, and the state it answers (R122). A segment that finds its condition false
answers the state it was given.
-/
namespace Sys2Proof.Machine

/-- WAKEUP (R150, R152). -/
theorem execWakeup_cases {s t : State} (h : execWakeup s = .next t) :
    ((s.phase = .idle ∨ s.phase = .start) ∧
        (((s.session = .disconnected ∨ s.session = .faulted) ∧ t = wakeBegin .wakeCell (enterGpio s))
          ∨ (s.session ≠ .disconnected ∧ s.session ≠ .faulted ∧ t = raiseError .stateError 0x00 0x00 s)))
      ∨ (s.phase = .wakeCell ∧ waited s.cfg.tBit s = true ∧
        ((s.locals.idx < 9
            ∧ t = hold .wakeCell (drive (wakeLevel s.cfg (s.locals.idx + 1)) (setIdx (s.locals.idx + 1) s)))
          ∨ (9 ≤ s.locals.idx ∧ t = finish s)))
      ∨ (s.phase = .wakeCell ∧ waited s.cfg.tBit s = false ∧ t = s) := by
  unfold execWakeup at h
  split at h <;> rename_i hp <;> cases h
  · exact .inl ⟨.inl hp, wakeupStart_cases s⟩
  · exact .inl ⟨.inr hp, wakeupStart_cases s⟩
  · rcases onWait_cases s.cfg.tBit (wakeNext .wakeCell finish) s with ⟨w, e⟩ | ⟨w, e⟩ <;> rw [e]
    · exact .inr (.inl ⟨hp, w, wakeNext_cases .wakeCell finish s⟩)
    · exact .inr (.inr ⟨hp, w, rfl⟩)

/-- TRANSMIT (R161). -/
theorem execTransmit_cases {s t : State} (h : execTransmit s = .next t) :
    ((s.phase = .idle ∨ s.phase = .start) ∧
        ((s.lineMode = .uart ∧ t = hold .transmitTx s)
          ∨ (s.lineMode = .gpio ∧ t = raiseError .stateError 0x00 0x00 s)))
      ∨ (s.phase = .transmitTx ∧ s.txFull = false ∧ t = finish { s with txReg := s.txData, txFull := true })
      ∨ (s.phase = .transmitTx ∧ s.txFull = true ∧ t = s) := by
  have start : (s.lineMode = .uart ∧ transmitStart s = hold .transmitTx s)
      ∨ (s.lineMode = .gpio ∧ transmitStart s = raiseError .stateError 0x00 0x00 s) := by
    unfold transmitStart; cases s.lineMode <;> simp
  unfold execTransmit at h
  split at h <;> rename_i hp <;> cases h
  · exact .inl ⟨.inl hp, start⟩
  · exact .inl ⟨.inr hp, start⟩
  · rcases onTx_cases s.txData finish s with w | w
    · exact .inr (.inl ⟨hp, w⟩)
    · exact .inr (.inr ⟨hp, w⟩)

/-- RECEIVE's hold point (R162). -/
theorem receiveByte_cases (s : State) :
    (s.rxFull = true ∧ receiveByte s = finish { s with rxFull := false, rxData := s.rxReg })
      ∨ (s.rxFull = false ∧ timedOut s = true ∧ receiveByte s = raiseError .timeout 0x00 0x00 s)
      ∨ (s.rxFull = false ∧ timedOut s = false ∧ receiveByte s = s) :=
  onRx_cases _ _ s

/-- RECEIVE's first segment (R133, R162): only a byte that was there at acceptance is taken at once. -/
theorem receiveStart_cases (s : State) :
    (s.lineMode = .uart ∧ s.rxAtAccept = true ∧ s.rxFull = true ∧ receiveStart s
        = finish { s with rxFull := false, rxData := s.rxReg, locals := { s.locals with t0 := s.now } })
      ∨ (s.lineMode = .uart ∧ (s.rxAtAccept = false ∨ s.rxFull = false) ∧ receiveStart s = hold .receiveRx s)
      ∨ (s.lineMode = .gpio ∧ receiveStart s = raiseError .stateError 0x00 0x00 s) := by
  by_cases hl : s.lineMode = .uart
  · have e : receiveStart s
        = if s.rxAtAccept then receiveByte (hold .receiveRx s) else hold .receiveRx s := if_pos hl
    rcases Bool.eq_false_or_eq_true s.rxAtAccept with ha | ha
    · rw [if_pos ha] at e
      rcases receiveByte_cases (hold .receiveRx s) with ⟨w, e'⟩ | ⟨_, w, _⟩ | ⟨w, _, e'⟩
      · exact .inl ⟨hl, ha, w, by rw [e, e']; rfl⟩
      · simp at w
      · exact .inr (.inl ⟨hl, .inr w, by rw [e, e']⟩)
    · exact .inr (.inl ⟨hl, .inl ha, by rw [e, if_neg (by simp [ha])]⟩)
  · exact .inr (.inr ⟨by cases hm : s.lineMode <;> simp_all, if_neg hl⟩)

/-- RECEIVE (R162). -/
theorem execReceive_cases {s t : State} (h : execReceive s = .next t) :
    ((s.phase = .idle ∨ s.phase = .start) ∧
        ((s.lineMode = .uart ∧ s.rxAtAccept = true ∧ s.rxFull = true
            ∧ t = finish { s with rxFull := false, rxData := s.rxReg, locals := { s.locals with t0 := s.now } })
          ∨ (s.lineMode = .uart ∧ (s.rxAtAccept = false ∨ s.rxFull = false) ∧ t = hold .receiveRx s)
          ∨ (s.lineMode = .gpio ∧ t = raiseError .stateError 0x00 0x00 s)))
      ∨ (s.phase = .receiveRx ∧ s.rxFull = true ∧ t = finish { s with rxFull := false, rxData := s.rxReg })
      ∨ (s.phase = .receiveRx ∧ s.rxFull = false ∧ timedOut s = true ∧ t = raiseError .timeout 0x00 0x00 s)
      ∨ (s.phase = .receiveRx ∧ s.rxFull = false ∧ timedOut s = false ∧ t = s) := by
  unfold execReceive at h
  split at h <;> rename_i hp <;> cases h
  · exact .inl ⟨.inl hp, receiveStart_cases s⟩
  · exact .inl ⟨.inr hp, receiveStart_cases s⟩
  · rcases receiveByte_cases s with w | w | w
    · exact .inr (.inl ⟨hp, w⟩)
    · exact .inr (.inr (.inl ⟨hp, w⟩))
    · exact .inr (.inr (.inr ⟨hp, w⟩))

/-- CONNECT (R182). -/
theorem execConnect_cases {s t : State} (h : execConnect s = .next t) :
    ((s.phase = .idle ∨ s.phase = .start) ∧
        ((s.session = .disconnected
            ∧ t = hold .connectIdle (drive true (enterGpio { s with session := .initializing })))
          ∨ (s.session ≠ .disconnected ∧ t = raiseError .stateError 0x00 0x00 s)))
      ∨ (s.phase = .connectIdle ∧ ((waited s.cfg.tIdle s = true ∧ t = wakeBegin .connectCell s)
          ∨ (waited s.cfg.tIdle s = false ∧ t = s)))
      ∨ (s.phase = .connectCell ∧ ((waited s.cfg.tBit s = true ∧
          ((s.locals.idx < 9
              ∧ t = hold .connectCell (drive (wakeLevel s.cfg (s.locals.idx + 1)) (setIdx (s.locals.idx + 1) s)))
            ∨ (9 ≤ s.locals.idx ∧ t = hold .connectSync (enterUart s))))
          ∨ (waited s.cfg.tBit s = false ∧ t = s)))
      ∨ (s.phase = .connectSync ∧
          ((s.rxFull = true ∧ s.rxReg = s.cfg.syncByte
              ∧ t = hold .connectKey1 { s with rxFull := false, keySync := s.rxReg })
            ∨ (s.rxFull = true ∧ s.rxReg ≠ s.cfg.syncByte
              ∧ t = hsFail .handshakeFailure s.rxReg 3 { s with rxFull := false, keySync := s.rxReg })
            ∨ (s.rxFull = false ∧ timedOut s = true ∧ t = hsFail .timeout 0x00 3 s)
            ∨ (s.rxFull = false ∧ timedOut s = false ∧ t = s)))
      ∨ (s.phase = .connectKey1 ∧
          ((s.rxFull = true ∧ t = hold .connectKey2 { s with rxFull := false, key1 := s.rxReg })
            ∨ (s.rxFull = false ∧ timedOut s = true ∧ t = hsFail .timeout 0x00 4 s)
            ∨ (s.rxFull = false ∧ timedOut s = false ∧ t = s)))
      ∨ (s.phase = .connectKey2 ∧
          ((s.rxFull = true ∧ t = hold .connectW4 { s with rxFull := false, key2 := s.rxReg })
            ∨ (s.rxFull = false ∧ timedOut s = true ∧ t = hsFail .timeout 0x00 4 s)
            ∨ (s.rxFull = false ∧ timedOut s = false ∧ t = s)))
      ∨ (s.phase = .connectW4 ∧ ((waited s.cfg.tW4 s = true ∧ t = hold .connectTx s)
          ∨ (waited s.cfg.tW4 s = false ∧ t = s)))
      ∨ (s.phase = .connectTx ∧
          ((s.txFull = false ∧ s.cfg.ackEcho = true
              ∧ t = hold .connectEcho { s with txReg := ~~~s.key2, txFull := true })
            ∨ (s.txFull = false ∧ s.cfg.ackEcho = false
              ∧ t = hold .connectW5 { s with txReg := ~~~s.key2, txFull := true })
            ∨ (s.txFull = true ∧ t = s)))
      ∨ (s.phase = .connectEcho ∧
          ((s.rxFull = true ∧ s.rxReg = ~~~s.key2 ∧ t = hold .connectW5 { s with rxFull := false })
            ∨ (s.rxFull = true ∧ s.rxReg ≠ ~~~s.key2
              ∧ t = hsFail .handshakeFailure s.rxReg 5 { s with rxFull := false })
            ∨ (s.rxFull = false ∧ timedOut s = true ∧ t = hsFail .timeout 0x00 5 s)
            ∨ (s.rxFull = false ∧ timedOut s = false ∧ t = s)))
      ∨ (s.phase = .connectW5 ∧ ((waited s.cfg.tW5 s = true ∧ t = hold .connectAck s)
          ∨ (waited s.cfg.tW5 s = false ∧ t = s)))
      ∨ (s.phase = .connectAck ∧
          ((s.rxFull = true ∧ s.rxReg = s.cfg.ackByte
              ∧ t = finish { s with rxFull := false, session := .ready, lastOk := s.now, tCmdEnd := s.now })
            ∨ (s.rxFull = true ∧ s.rxReg ≠ s.cfg.ackByte
              ∧ t = hsFail .handshakeFailure s.rxReg 6 { s with rxFull := false })
            ∨ (s.rxFull = false ∧ timedOut s = true ∧ t = hsFail .timeout 0x00 6 s)
            ∨ (s.rxFull = false ∧ timedOut s = false ∧ t = s))) := by
  unfold execConnect at h
  split at h <;> rename_i hp <;> cases h
  case h_1 => exact .inl ⟨.inl hp, connectStart_cases s⟩
  case h_2 => exact .inl ⟨.inr hp, connectStart_cases s⟩
  case h_3 =>
    refine .inr (.inl ⟨hp, ?_⟩)
    exact onWait_cases s.cfg.tIdle _ s
  case h_4 =>
    refine .inr (.inr (.inl ⟨hp, ?_⟩))
    rcases onWait_cases s.cfg.tBit (wakeNext .connectCell connectToUart) s with ⟨w, e⟩ | ⟨w, e⟩ <;> rw [e]
    · exact .inl ⟨w, wakeNext_cases .connectCell connectToUart s⟩
    · exact .inr ⟨w, rfl⟩
  case h_5 =>
    refine .inr (.inr (.inr (.inl ⟨hp, ?_⟩)))
    rcases onRx_cases (hsFail .timeout 0x00 3) connectGotSync s with ⟨w, e⟩ | ⟨w, w', e⟩ | ⟨w, w', e⟩ <;> rw [e]
    · by_cases hb : s.rxReg = s.cfg.syncByte
      · exact .inl ⟨w, hb, if_pos hb⟩
      · exact .inr (.inl ⟨w, hb, if_neg hb⟩)
    · exact .inr (.inr (.inl ⟨w, w', rfl⟩))
    · exact .inr (.inr (.inr ⟨w, w', rfl⟩))
  case h_6 =>
    refine .inr (.inr (.inr (.inr (.inl ⟨hp, ?_⟩))))
    exact onRx_cases _ _ s
  case h_7 =>
    refine .inr (.inr (.inr (.inr (.inr (.inl ⟨hp, ?_⟩)))))
    exact onRx_cases _ _ s
  case h_8 =>
    refine .inr (.inr (.inr (.inr (.inr (.inr (.inl ⟨hp, ?_⟩))))))
    exact onWait_cases s.cfg.tW4 _ s
  case h_9 =>
    refine .inr (.inr (.inr (.inr (.inr (.inr (.inr (.inl ⟨hp, ?_⟩)))))))
    rcases onTx_cases (~~~s.key2) connectSentAck s with ⟨w, e⟩ | ⟨w, e⟩ <;> rw [e]
    · rcases Bool.eq_false_or_eq_true s.cfg.ackEcho with ha | ha
      · exact .inl ⟨w, ha, if_pos ha⟩
      · exact .inr (.inl ⟨w, ha, if_neg (by simp [ha])⟩)
    · exact .inr (.inr ⟨w, rfl⟩)
  case h_10 =>
    refine .inr (.inr (.inr (.inr (.inr (.inr (.inr (.inr (.inl ⟨hp, ?_⟩))))))))
    rcases onRx_cases (hsFail .timeout 0x00 5) connectGotEcho s with ⟨w, e⟩ | ⟨w, w', e⟩ | ⟨w, w', e⟩ <;> rw [e]
    · by_cases hb : s.rxReg = ~~~s.key2
      · exact .inl ⟨w, hb, if_pos hb⟩
      · exact .inr (.inl ⟨w, hb, if_neg hb⟩)
    · exact .inr (.inr (.inl ⟨w, w', rfl⟩))
    · exact .inr (.inr (.inr ⟨w, w', rfl⟩))
  case h_11 =>
    refine .inr (.inr (.inr (.inr (.inr (.inr (.inr (.inr (.inr (.inl ⟨hp, ?_⟩)))))))))
    exact onWait_cases s.cfg.tW5 _ s
  case h_12 =>
    refine .inr (.inr (.inr (.inr (.inr (.inr (.inr (.inr (.inr (.inr (⟨hp, ?_⟩))))))))))
    rcases onRx_cases (hsFail .timeout 0x00 6) connectGotAck s with ⟨w, e⟩ | ⟨w, w', e⟩ | ⟨w, w', e⟩ <;> rw [e]
    · by_cases hb : s.rxReg = s.cfg.ackByte
      · exact .inl ⟨w, hb, if_pos hb⟩
      · exact .inr (.inl ⟨w, hb, if_neg hb⟩)
    · exact .inr (.inr (.inl ⟨w, w', rfl⟩))
    · exact .inr (.inr (.inr ⟨w, w', rfl⟩))

/-- SEND_CMD (R210). -/
theorem execSendCmd_cases {s t : State} (h : execSendCmd s = .next t) :
    ((s.phase = .idle ∨ s.phase = .start) ∧
        ((s.session ≠ .ready ∧ t = raiseError .notReady 0x00 0x00 { s with resValid := false })
          ∨ (s.session = .ready ∧ lengthsLegal s.cfg s.n s.e = false
            ∧ t = raiseError .badLength 0x00 0x00 { s with resValid := false })
          ∨ (s.session = .ready ∧ lengthsLegal s.cfg s.n s.e = true
            ∧ t = hold .sendGap { s with resValid := false })))
      ∨ (s.phase = .sendGap ∧
        ((gapPassed s = true ∧ kaExpired s = true
            ∧ t = endCmd .sessionExpired 0x00 0x00 { s with session := .faulted })
          ∨ (gapPassed s = true ∧ kaExpired s = false ∧ t = hold .sendTx { s with locals := { s.locals with
              frame := requestFrame s.cfg (pidBytes s.pidBuf s.n), idx := 0 } })
          ∨ (gapPassed s = false ∧ t = s)))
      ∨ (s.phase = .sendSpacing ∧ ((waited s.cfg.tByte s = true ∧ t = hold .sendTx s)
          ∨ (waited s.cfg.tByte s = false ∧ t = s)))
      ∨ (s.phase = .sendTx ∧
        ((s.txFull = false ∧ t = hold .sendEcho { s with txReg := frameByte s, txFull := true })
          ∨ (s.txFull = true ∧ t = s)))
      ∨ (s.phase = .sendEcho ∧
        ((s.rxFull = true ∧ s.rxReg = frameByte s ∧ s.locals.idx < s.n + 3
            ∧ t = hold .sendSpacing (setIdx (s.locals.idx + 1) { s with rxFull := false }))
          ∨ (s.rxFull = true ∧ s.rxReg = frameByte s ∧ s.n + 3 ≤ s.locals.idx
            ∧ t = hold .sendResp { s with
                rxFull := false, locals := { s.locals with idx := 0, received := [] } })
          ∨ (s.rxFull = true ∧ s.rxReg ≠ frameByte s
            ∧ t = endCmd .echoMismatch s.rxReg (posByte s.locals.idx) { s with rxFull := false })
          ∨ (s.rxFull = false ∧ timedOut s = true ∧ t = endCmd .timeout 0x00 (posByte s.locals.idx) s)
          ∨ (s.rxFull = false ∧ timedOut s = false ∧ t = s)))
      ∨ (s.phase = .sendResp ∧
        ((s.rxFull = true ∧ s.locals.idx < 3 + s.n + s.e
            ∧ (∃ k, responseCheck s.cfg s.pidBuf s.n s.e s.locals.idx s.rxReg = some k
              ∧ t = endCmd k s.rxReg (posByte s.locals.idx) { s with rxFull := false }))
          ∨ (s.rxFull = true ∧ s.locals.idx < 3 + s.n + s.e
            ∧ responseCheck s.cfg s.pidBuf s.n s.e s.locals.idx s.rxReg = none
            ∧ t = hold .sendResp { s with rxFull := false, locals := { s.locals with
                idx := s.locals.idx + 1, received := s.locals.received ++ [s.rxReg] } })
          ∨ (s.rxFull = true ∧ 3 + s.n + s.e ≤ s.locals.idx ∧ s.cfg.verifyRxChecksum = true
            ∧ s.rxReg ≠ checksum s.locals.received
            ∧ t = endCmd .checksumMismatch s.rxReg (posByte (3 + s.n + s.e)) { s with
                rxFull := false, csumComputed := checksum s.locals.received, csumReceived := s.rxReg })
          ∨ (s.rxFull = true ∧ 3 + s.n + s.e ≤ s.locals.idx
            ∧ (s.cfg.verifyRxChecksum = false ∨ s.rxReg = checksum s.locals.received)
            ∧ t = finish (commitResults { s with
                rxFull := false, csumComputed := checksum s.locals.received, csumReceived := s.rxReg }))
          ∨ (s.rxFull = false ∧ timedOut s = true ∧ t = endCmd .timeout 0x00 (0x80 + posByte s.locals.idx) s)
          ∨ (s.rxFull = false ∧ timedOut s = false ∧ t = s))) := by
  have start : (s.session ≠ .ready ∧ sendStart s = raiseError .notReady 0x00 0x00 { s with resValid := false })
      ∨ (s.session = .ready ∧ lengthsLegal s.cfg s.n s.e = false
        ∧ sendStart s = raiseError .badLength 0x00 0x00 { s with resValid := false })
      ∨ (s.session = .ready ∧ lengthsLegal s.cfg s.n s.e = true
        ∧ sendStart s = hold .sendGap { s with resValid := false }) := by
    by_cases hr : s.session = .ready
    · cases hl : lengthsLegal s.cfg s.n s.e
      · refine .inr (.inl ⟨hr, rfl, ?_⟩)
        change (if s.session = .ready then if lengthsLegal s.cfg s.n s.e then _ else _ else _) = _
        rw [if_pos hr, hl]; rfl
      · refine .inr (.inr ⟨hr, rfl, ?_⟩)
        change (if s.session = .ready then if lengthsLegal s.cfg s.n s.e then _ else _ else _) = _
        rw [if_pos hr, hl]; rfl
    · exact .inl ⟨hr, if_neg hr⟩
  unfold execSendCmd at h
  split at h <;> rename_i hp <;> cases h
  case h_1 => exact .inl ⟨.inl hp, start⟩
  case h_2 => exact .inl ⟨.inr hp, start⟩
  case h_3 =>
    refine .inr (.inl ⟨hp, ?_⟩)
    rcases onGap_cases sendAfterGap s with ⟨w, e⟩ | ⟨w, e⟩ <;> rw [e]
    · rcases Bool.eq_false_or_eq_true (kaExpired s) with hk | hk
      · exact .inl ⟨w, hk, if_pos hk⟩
      · exact .inr (.inl ⟨w, hk, if_neg (by simp [hk])⟩)
    · exact .inr (.inr ⟨w, rfl⟩)
  case h_4 =>
    refine .inr (.inr (.inl ⟨hp, ?_⟩))
    exact onWait_cases s.cfg.tByte _ s
  case h_5 =>
    refine .inr (.inr (.inr (.inl ⟨hp, ?_⟩)))
    exact onTx_cases (frameByte s) _ s
  case h_6 =>
    refine .inr (.inr (.inr (.inr (.inl ⟨hp, ?_⟩))))
    rcases onRx_cases (endCmd .timeout 0x00 (posByte s.locals.idx)) sendGotEcho s
      with ⟨w, e⟩ | ⟨w, w', e⟩ | ⟨w, w', e⟩ <;> rw [e]
    · by_cases hb : s.rxReg = frameByte s
      · have g : sendGotEcho s.rxReg { s with rxFull := false }
            = if s.locals.idx < s.n + 3 then
                hold .sendSpacing (setIdx (s.locals.idx + 1) { s with rxFull := false })
              else hold .sendResp { s with
                rxFull := false, locals := { s.locals with idx := 0, received := [] } } := if_pos hb
        rcases Nat.lt_or_ge s.locals.idx (s.n + 3) with hi | hi
        · exact .inl ⟨w, hb, hi, by rw [g, if_pos hi]⟩
        · exact .inr (.inl ⟨w, hb, hi, by rw [g, if_neg (by omega)]⟩)
      · exact .inr (.inr (.inl ⟨w, hb, if_neg hb⟩))
    · exact .inr (.inr (.inr (.inl ⟨w, w', rfl⟩)))
    · exact .inr (.inr (.inr (.inr ⟨w, w', rfl⟩)))
  case h_7 =>
    refine .inr (.inr (.inr (.inr (.inr (⟨hp, ?_⟩)))))
    rcases onRx_cases (endCmd .timeout 0x00 (0x80 + posByte s.locals.idx)) sendGotResponse s
      with ⟨w, e⟩ | ⟨w, w', e⟩ | ⟨w, w', e⟩ <;> rw [e]
    · rcases sendGotResponse_cases s.rxReg { s with rxFull := false } with ⟨hi, ⟨k, hk, e⟩ | ⟨hk, e⟩⟩ | ⟨hi, e⟩
      · exact .inl ⟨w, hi, k, hk, e⟩
      · exact .inr (.inl ⟨w, hi, hk, e⟩)
      · rcases sendGotChecksum_cases s.rxReg { s with rxFull := false } with ⟨hv, hc, e'⟩ | ⟨hv, e'⟩
        · exact .inr (.inr (.inl ⟨w, hi, hv, hc, e.trans e'⟩))
        · exact .inr (.inr (.inr (.inl ⟨w, hi, hv, e.trans e'⟩)))
    · exact .inr (.inr (.inr (.inr (.inl ⟨w, w', rfl⟩))))
    · exact .inr (.inr (.inr (.inr (.inr ⟨w, w', rfl⟩))))

end Sys2Proof.Machine
end

