-- ==== Sys2Proof/Tests/Slice0.lean ====
section
/-!
SUPPORT. The model's own tests: words and single steps with the values of 95_test_vectors.md, and, for every
statement with hypotheses, a state and operands that meet them.
-/
namespace Sys2Proof.Tests

open Sys2Proof.Machine

/-- Does a step answer a next state with the property `p`? -/
def after (r : Result) (p : State → Bool) : Bool :=
  match r with
  | .next t => p t
  | .fault _ => false
  | .refused _ => false

/-- An idle block in session `ss` and mode `m`, with the moves `evs` to come. -/
def idle (ss : Session) (m : LineMode) (evs : List Event) : State :=
  { State.reset with session := ss, lineMode := m, script := evs }

/-- The block running `i` at the hold point `p`. -/
def running (i : Instr) (p : Phase) (ss : Session) (m : LineMode) (evs : List Event) : State :=
  { idle ss m evs with cmd := encode i, busy := true, phase := p }

/-- A buffer with the given first bytes. -/
def buf (p : List Byte) : Buf8 := Buf8.ofFn fun k => p.getD k 0

/-- The RPM request of V-SC-1: two command bytes 01 0C, two result bytes. -/
def rpm (s : State) : State := { s with pidBuf := buf [0x01, 0x0C], cmdLen := 2, expLen := 2 }

/-- SEND_CMD with the RPM operands at the hold point `p`, its frame under send and `idx` its index. -/
def sending (p : Phase) (idx : Nat) (evs : List Event) : State :=
  { rpm (running .sendCmd p .ready .uart evs) with
    locals := { t0 := 0, idx := idx, frame := [0x68, 0x6A, 0xF1, 0x01, 0x0C, 0xD0], received := [] }
    wireTx := [0x68, 0x6A, 0xF1, 0x01, 0x0C, 0xD0].take (if p = .sendEcho then idx + 1 else idx) }

/-- The same with `got` taken of the response 46 6A F1 01 0C 1A F8 of V-SC-1. -/
def responding (got : Nat) (evs : List Event) : State :=
  { sending .sendResp got evs with
    wireTx := [0x68, 0x6A, 0xF1, 0x01, 0x0C, 0xD0]
    locals := { t0 := 0, idx := got, frame := [0x68, 0x6A, 0xF1, 0x01, 0x0C, 0xD0],
                received := [0x46, 0x6A, 0xF1, 0x01, 0x0C, 0x1A, 0xF8].take got } }

/-- A byte in the receive buffer. -/
def withRx (x : Byte) (s : State) : State := { s with rxFull := true, rxReg := x }

/-! ## Decoding: words written out from R90 and R93 -/

theorem test_decode_nop : decode 0b00000000_00000000_00000000_00000000#32 = .command .nop := by decide
theorem test_decode_wakeup : decode 0b00000000_00000000_00000000_00000001#32 = .command .wakeup := by decide
theorem test_decode_transmit : decode 0b00000000_00000000_00000000_00000010#32 = .command .transmit := by decide
theorem test_decode_receive : decode 0b00000000_00000000_00000000_00000011#32 = .command .receive := by decide
theorem test_decode_connect : decode 0b00000000_00000000_00000000_00000100#32 = .command .connect := by decide
theorem test_decode_sendCmd : decode 0b00000000_00000000_00000000_00000101#32 = .command .sendCmd := by decide
theorem test_decode_disconnect : decode 0b00000000_00000000_00000000_00000110#32 = .command .disconnect := by decide

/-- V-DEC-2 to V-DEC-6, and the lowest reserved bit with each legal opcode's neighbour. -/
theorem test_decode_illegal :
    decode 0x00000007#32 = .illegal .unknownOpcode ∧ decode 0x000000FF#32 = .illegal .unknownOpcode
      ∧ decode 0x00000100#32 = .illegal .reservedBits ∧ decode 0x00000105#32 = .illegal .reservedBits
      ∧ decode 0x80000006#32 = .illegal .reservedBits ∧ decode 0xFFFFFFFF#32 = .illegal .reservedBits := by decide

theorem test_decodeTableWord :
    decodeTableWord 32 5 = some .sendCmd ∧ decodeTableWord 32 7 = none ∧ decodeTableWord 32 0x106 = none := by
  decide

theorem test_withFetchWord_runs_it :
    step (State.reset.withFetchWord 32 4) = exec .connect (accept 4 State.reset)
      ∧ step (State.reset.withFetchWord 32 6) = exec .disconnect (accept 6 State.reset) := ⟨rfl, rfl⟩

/-! ## Well-formedness: an ill-formed term for each check -/

theorem test_wordWellFormed_refuses :
    wordWellFormed 0x00000006 = true ∧ wordWellFormed 0x00000007 = false ∧ wordWellFormed 0x00000100 = false := by
  decide

theorem test_accessWellFormed_refuses :
    accessWellFormed 0x3C = true ∧ accessWellFormed 0x40 = false ∧ accessWellFormed 0x3D = false
      ∧ accessWellFormed 0x3E = false ∧ accessWellFormed 0x3F = false := by decide

theorem test_event_wellFormed_refuses :
    (Event.hostRead 0x40).wellFormed = false ∧ (Event.hostWrite 0x02 0).wellFormed = false
      ∧ (Event.deliver 0xFF).wellFormed = true := by decide

theorem test_instr_wellFormed : Instr.sendCmd.wellFormed = true := by decide

theorem test_config_legal : Config.default.legal = true
    ∧ Config.legal { tBit := 1, tIdle := 2600, tW4 := 0, tReq := 65, tKa := 1, pidBufSize := 2, resBufSize := 4 }
      = true := by decide

/-- Each bound of R6's column "Legal values", broken alone. -/
theorem test_config_legal_refuses :
    Config.legal { tBit := 0 } = false ∧ Config.legal { tBit := 2 ^ 32 } = false
      ∧ Config.legal { tIdle := 2599 } = false ∧ Config.legal { tIdle := 2 ^ 32 } = false
      ∧ Config.legal { tW4 := 2 ^ 32 } = false ∧ Config.legal { tW5 := 2 ^ 32 } = false
      ∧ Config.legal { tByte := 2 ^ 32 } = false ∧ Config.legal { tReq := 64 } = false
      ∧ Config.legal { tKa := 0 } = false ∧ Config.legal { pidBufSize := 1 } = false
      ∧ Config.legal { pidBufSize := 9 } = false ∧ Config.legal { resBufSize := 3 } = false
      ∧ Config.legal { resBufSize := 9 } = false ∧ Config.legal { rxTimeout := 2 ^ 32 } = false := by decide

/-! ## Single steps -/

/-- V-DEC-1. -/
theorem test_nop_clears_error :
    after (step (State.withFetchWord { State.reset with errKind := .echoMismatch, rxOverrun := true } 32 0))
      (fun t => errorWord t = 0 ∧ t.rxOverrun = false ∧ statusWord t = 0x00000010) = true := by decide

/-- V-WK-1, the first cell. -/
theorem test_wakeup_start_bit :
    after (step (State.reset.withFetchWord 32 1)) (fun t => statusWord t = 0x00000001 ∧ t.phase = .wakeCell)
      = true := by decide

/-- V-WK-4. -/
theorem test_wakeup_in_ready :
    after (step ((idle .ready .uart []).withFetchWord 32 1))
      (fun t => errorWord t = 0x00000008 ∧ statusWord t = 0x0000001C) = true := by decide

/-- V-WK-8: the cells of ADDR_BYTE = 0x01. -/
theorem test_wake_cells_of_01 :
    bitCells 0x01 = [false, true, false, false, false, false, false, false, false, true] := by decide

/-- V-TR-1, the segment that buffers A5. -/
theorem test_transmit_buffers :
    after (step { running .transmit .transmitTx .disconnected .uart [.engine] with txData := 0xA5 })
      (fun t => t.txReg = 0xA5 ∧ statusWord t = 0x00000038 ∧ errorWord t = 0) = true := by decide

/-- V-TR-3, with TX_FULL = 1. -/
theorem test_transmit_holds :
    after (step { running .transmit .transmitTx .disconnected .uart [.engine] with txFull := true })
      (fun t => t.busy = true ∧ t.phase = .transmitTx) = true := by decide

/-- V-TR-7, and a byte that came after acceptance, for which R122 has a hold point. -/
theorem test_receive_at_first_step :
    after (step (State.withFetchWord (withRx 0x11 (idle .disconnected .uart [])) 32 3))
      (fun t => readReg t .rxData = 0x00000011 ∧ statusWord t = 0x00000018 ∧ t.now = 0) = true
      ∧ after (step (withRx 0x11 (running .receive .start .disconnected .uart [.engine])))
        (fun t => t.phase = .receiveRx ∧ t.rxFull = true) = true := by decide

/-- V-TR-12: byte and time limit together. -/
theorem test_receive_byte_wins :
    after (step (withRx 0x77 { running .receive .receiveRx .disconnected .uart [.tick] with
        cfg := { rxTimeout := 20 }, now := 120, locals := { t0 := 100, idx := 0, frame := [], received := [] } }))
      (fun t => readReg t .rxData = 0x00000077 ∧ errorWord t = 0 ∧ t.now = 120) = true := by decide

/-- V-CON-5, the sync byte 54. -/
theorem test_connect_wrong_sync :
    after (step (withRx 0x54 (running .connect .connectSync .initializing .uart [.engine])))
      (fun t => errorWord t = 0x00035401 ∧ statusWord t = 0x0000001E ∧ keysWord t = 0x00540000) = true := by decide

/-- V-CON-2, the answer to key byte 94. -/
theorem test_connect_answers_6B :
    after (step { running .connect .connectTx .initializing .uart [.engine] with key2 := 0x94 })
      (fun t => t.txReg = 0x6B ∧ t.txFull = true ∧ t.phase = .connectW5) = true := by decide

/-- V-SC-1, the checksum byte. -/
theorem test_sendCmd_commits :
    after (step (withRx 0xC0 (responding 7 [.engine])))
      (fun t => readReg t .resBuf0 = 0x0000F81A ∧ readReg t .rxCsum = 0x0000C0C0 ∧ statusWord t = 0x0000011C)
      = true := by decide

/-- V-SC-17, the third byte's echo. -/
theorem test_sendCmd_echo_mismatch :
    after (step (withRx 0xF0 (sending .sendEcho 2 [.engine])))
      (fun t => errorWord t = 0x0002F002 ∧ statusWord t = 0x0000001C) = true := by decide

/-- V-DIS-2. -/
theorem test_disconnect_from_ready :
    after (step (State.withFetchWord { idle .ready .uart [] with resValid := true } 32 6))
      (fun t => statusWord t = 0x00000018 ∧ errorWord t = 0) = true := by decide

/-! ## Host accesses and the other agents -/

/-- V-TR-2. -/
theorem test_txData_upper_bits_ignored :
    after (step (idle .disconnected .uart [.hostWrite 0x10 0x00001234]))
      (fun t => readReg t .txData = 0x00000034) = true := by decide

/-- V-DEC-7. -/
theorem test_write_while_busy_is_lost :
    after (step (running .connect .connectIdle .initializing .gpio [.hostWrite 0x00 6]))
      (fun t => readReg t .cmd = 0x00000004 ∧ t.busy = true) = true := by decide

/-- V-TR-8, the second byte under `drop_new`. -/
theorem test_overrun_drop_new :
    after (step (withRx 0x11 (idle .disconnected .uart [.deliver 0x22])))
      (fun t => statusWord t = 0x000000D8 ∧ t.rxReg = 0x11) = true := by decide

/-- V-KA-4. -/
theorem test_ka_expired_boundary :
    statusWord { idle .ready .uart [] with now := 9890, lastOk := 4890 } = 0x0000001C
      ∧ statusWord { idle .ready .uart [] with now := 9891, lastOk := 4890 } = 0x0000021C := by decide

/-- V-SRC-1, and V-SC-8's checksum. -/
theorem test_request_frames :
    requestFrame Config.default [0x01, 0x0C] = [0x68, 0x6A, 0xF1, 0x01, 0x0C, 0xD0]
      ∧ requestFrame Config.default [0xFF, 0xFF, 0xFF, 0xFF, 0xFF, 0xFF, 0xFF, 0xFF]
        = [0x6E, 0x6A, 0xF1, 0xFF, 0xFF, 0xFF, 0xFF, 0xFF, 0xFF, 0xFF, 0xFF, 0xC1] := by decide

/-- V-SRC-13's operand words for the supported-PID bitmask. -/
theorem test_operand_words :
    wordOfBytes [0x01, 0x00] = 0x00000001 ∧ frameCfgOperand 2 4 = 0x00000402 := by decide

/-! ## The invariant on concrete states -/

/-- The invariant, clause by clause in a form that evaluates. -/
theorem inv_of_clauses {s : State}
    (h1 : (s.busy = true ↔ s.phase ≠ .idle)
      ∧ (s.phase.owner.all fun i => decode s.cmd = .command i) = true
      ∧ (s.session = .initializing ↔ s.phase.owner = some .connect)
      ∧ (s.session = .ready → s.lineMode = .uart)
      ∧ (s.resValid = true → s.session = .ready ∧ s.phase.owner ≠ some .sendCmd)
      ∧ (s.txFull = true → s.lineMode = .uart)
      ∧ (s.phase.isCell = false → s.kline = true))
    (h2 : (s.phase.inGpio = true → s.lineMode = .gpio)
      ∧ (s.phase.owner ≠ none → s.phase.inGpio = false → s.lineMode = .uart)
      ∧ (s.phase = .wakeCell → s.session ≠ .ready)
      ∧ (s.phase.isCell = true → s.locals.idx ≤ 9 ∧ s.kline = wakeLevel s.cfg s.locals.idx)
      ∧ (s.phase.afterSync = true → s.keySync = s.cfg.syncByte)
      ∧ (s.phase = .connectEcho → s.cfg.ackEcho = true)
      ∧ (s.phase.owner = some .sendCmd → s.session = .ready ∧ lengthsLegal s.cfg s.n s.e = true))
    (h3 : (s.phase.hasFrame = true → s.locals.frame = requestFrame s.cfg (pidBytes s.pidBuf s.n))
      ∧ (s.phase = .sendSpacing ∨ s.phase = .sendTx ∨ s.phase = .sendEcho → s.locals.idx ≤ s.n + 3)
      ∧ (s.phase.hasFrame = true →
          (requestFrame s.cfg (pidBytes s.pidBuf s.n)).take (bytesSent s) <:+ outgoing s)
      ∧ (s.phase = .sendResp → s.locals.idx = s.locals.received.length ∧ s.locals.idx ≤ 3 + s.n + s.e
          ∧ ∀ i, i < s.locals.idx → responseCheck s.cfg s.pidBuf s.n s.e i (s.locals.received.getD i 0) = none)
      ∧ (s.phase = .start → s.rxAtAccept = true → s.rxFull = true) ∧ (s.rst = true → resetBlock s = s)) : Inv s := by
  obtain ⟨a1, a2, a3, a4, a5, a6, a7⟩ := h1
  obtain ⟨b1, b2, b3, b4, b5, b6, b7⟩ := h2
  obtain ⟨c1, c2, c3, c4, c5, c6⟩ := h3
  exact ⟨a1, fun i hi => by simpa [hi] using a2, a3, a4, a5, a6, a7, b1, b2, b3, b4, b5, b6, b7, c1, c2, c3, c4,
    c5, c6⟩

/-! ## States that meet the hypotheses of the statements

One theorem for each statement with hypotheses (the name after `test_hyp_` is the statement's), one conjunct or
state for each of its clauses. Where a statement speaks of a step's answer `t`, `after` shows that there is one. -/

/-- A host's read and write at `a`. -/
def reading (a : Word) : State := idle .disconnected .gpio [.hostRead a]
def writing (a v : Word) : State := idle .disconnected .gpio [.hostWrite a v]

/-- `s` at time `n`. -/
def atTime (n : Word) (s : State) : State := { s with now := n }

/-- `s` with the receive time limit of 20 ms. -/
def limited (s : State) : State := { s with cfg := { rxTimeout := 20 } }

theorem test_hyp_SendCmdOperandWordsReadBackAsWritten :
    ([1, 2, 3, 4, 5, 6, 7, 8] : List Byte).length ≤ State.reset.cfg.pidBufSize
      ∧ ([1, 2, 3, 4, 5, 6, 7, 8] : List Byte).length ≤ 8 ∧ (15 : Nat) ≤ 15
      ∧ ([] : List Byte).length ≤ State.reset.cfg.pidBufSize := by decide

theorem test_hyp_RequestFrameLayoutAndChecksum :
    1 ≤ ([0x01] : List Byte).length ∧ ([1, 2, 3, 4, 5, 6, 7, 8] : List Byte).length ≤ 8
      ∧ 0 < ([0x01] : List Byte).length := by decide

theorem test_hyp_WakeByteHasTenCellsLowBitFirst : (0 : Nat) < 8 ∧ (7 : Nat) < 8 := by decide

theorem test_hyp_BufferBytesArePackedLittleEndian :
    (7 : Nat) < 8 ∧ (0 : Nat) < 8 ∧ 7 / 4 = 1 ∧ (7 : Nat) < State.reset.cfg.pidBufSize ∧ (1 : Nat) < 2 := by decide

theorem test_hyp_HostReadReturnsTheRegisterAndChangesNothing :
    (reading 0x3C).rst = false ∧ nextEvent (reading 0x3C) = .hostRead 0x3C ∧ (0x3C : Word).toNat % 4 = 0
      ∧ (0x3C : Word).toNat ≤ 0x3C ∧ nextEvent (reading 0x00) = .hostRead 0x00 ∧ (0x00 : Word).toNat % 4 = 0 := by
  decide

theorem test_hyp_HostWriteStoresTheWritableFields :
    (writing Reg.cmd.offset 4).rst = false ∧ (writing Reg.cmd.offset 4).busy = false
      ∧ nextEvent (writing Reg.cmd.offset 4) = .hostWrite Reg.cmd.offset 4
      ∧ nextEvent (writing Reg.txData.offset 4) = .hostWrite Reg.txData.offset 4
      ∧ nextEvent (writing Reg.frameCfg.offset 4) = .hostWrite Reg.frameCfg.offset 4
      ∧ nextEvent (writing Reg.pidBuf0.offset 4) = .hostWrite Reg.pidBuf0.offset 4
      ∧ nextEvent (writing Reg.pidBuf1.offset 4) = .hostWrite Reg.pidBuf1.offset 4
      ∧ nextEvent (writing Reg.reserved3C.offset 4) = .hostWrite Reg.reserved3C.offset 4
      ∧ { writing Reg.cmd.offset 4 with busy := true }.rst = false
      ∧ { writing Reg.cmd.offset 4 with busy := true }.busy = true := by decide

theorem test_hyp_HostAccessOutsideTheContractIsRefused :
    (reading 0x40).rst = false ∧ nextEvent (reading 0x40) = .hostRead 0x40 ∧ 0x40 ≤ (0x40 : Word).toNat
      ∧ nextEvent (writing 0x3F 1) = .hostWrite 0x3F 1 ∧ (0x3F : Word).toNat < 0x40 ∧ (0x3F : Word).toNat % 4 ≠ 0 := by
  decide

theorem test_hyp_OperandsHoldWhileACommandRuns :
    (sending .sendEcho 0 [.hostWrite Reg.pidBuf0.offset 9]).rst = false
      ∧ (sending .sendEcho 0 [.hostWrite Reg.pidBuf0.offset 9]).busy = true
      ∧ nextEvent (sending .sendEcho 0 [.hostWrite Reg.pidBuf0.offset 9]) = .hostWrite Reg.pidBuf0.offset 9
      ∧ (sending .sendTx 0 [.engine]).busy = true ∧ nextEvent (sending .sendTx 0 [.engine]) ≠ .rstAssert
      ∧ after (step (sending .sendTx 0 [.engine])) (fun t => t.busy) = true := by decide

theorem test_hyp_StepRunsTheDecodedCommand :
    engineMoves (sending .sendTx 0 [.engine]) = true
      ∧ decode (sending .sendTx 0 [.engine]).cmd = .command .sendCmd
      ∧ engineMoves (sending .sendTx 0 [.tick]) = true := by decide

theorem test_hyp_WriteToCmdAcceptsACommand :
    (writing 0x00 4).rst = false ∧ nextEvent (writing 0x00 4) = .hostWrite 0x00 4 ∧ (writing 0x00 4).busy = false
      ∧ decode 4 = .command .connect
      ∧ (running .connect .connectIdle .initializing .gpio [.hostWrite 0x00 6]).busy = true
      ∧ (running .connect .connectIdle .initializing .gpio [.hostWrite 0x00 6]).rst = false
      ∧ nextEvent (running .connect .connectIdle .initializing .gpio [.hostWrite 0x00 6]) = .hostWrite 0x00 6 := by
  decide

theorem test_hyp_IllegalWordEndsWithIllegalCommand :
    0x07 ≤ (opcodeField 0x00000007).toNat ∧ rsvdField 0x00000100 ≠ 0 := by decide

theorem test_hyp_EngineHoldsWhileItsConditionIsFalse :
    (running .connect .connectIdle .initializing .gpio []).phase.owner = some .connect
      ∧ holdReady (atTime 2599 (running .connect .connectIdle .initializing .gpio [])) = false
      ∧ (sending .sendEcho 0 []).phase.owner = some .sendCmd ∧ holdReady (sending .sendEcho 0 []) = false := by decide

/-- The five waits, each with a wait of 2 or 0 ms. -/
def shortWaits : Config := { tBit := 2, tIdle := 2600, tW4 := 2, tW5 := 0, tByte := 2 }

/-- A state at the wait `p` that it has just reached, with two ticks to come. -/
def waiting (i : Instr) (p : Phase) : State :=
  { running i p .initializing .gpio ([.tick, .tick] ++ []) with cfg := shortWaits }

/-- A state with no move listed, after `k` ticks. -/
def afterTicks (s : State) (k : Nat) : State := { s with now := s.now + BitVec.ofNat 32 k, draws := s.draws + k }

/-- The ticks of a machine whose engine is not enabled are an endless run. -/
theorem isRun_ticks {s : State} (hs : s.script = []) (hr : s.rst = false)
    (he : ∀ k, engineEnabled (afterTicks s k) = false) : IsRun (fun _ => .tick) (afterTicks s) := by
  intro k
  have h : move .tick (afterTicks s k) = .next (tick (popEvent (afterTicks s k))) := by
    have hk : (afterTicks s k).rst = false := hr
    simp [move, he, hk]
  have e : popEvent (afterTicks s k) = { afterTicks s k with draws := (afterTicks s k).draws + 1 } := by
    simp [popEvent, afterTicks, hs]
  rw [h, e]
  simp [afterTicks, tick, BitVec.ofNat_add, BitVec.add_assoc, Nat.add_assoc]

/-- RECEIVE at its hold point, on a silent line with no time limit (V-TR-10). -/
def stalled : State := running .receive .receiveRx .ready .uart []

theorem test_hyp_EngineHoldsForEver :
    IsRun (fun _ => .tick) (afterTicks stalled) ∧ (afterTicks stalled 0).phase.isRx = true
      ∧ (afterTicks stalled 0).busy = true ∧ (afterTicks stalled 0).rxFull = false
      ∧ (afterTicks stalled 0).cfg.rxTimeout = 0 ∧ (afterTicks stalled 0).rst = false
      ∧ Event.tick ≠ .rstAssert ∧ Event.tick ≠ .deliver 0 :=
  ⟨isRun_ticks rfl rfl fun _ => rfl, by decide⟩

/-- A fair run: an idle block and its ticks. -/
theorem test_hyp_TickWaitsForTheEngine_fair : FairRun (fun _ => .tick) (afterTicks (idle .ready .uart [])) where
  run := isRun_ticks rfl rfl fun _ => rfl
  timeBase k := ⟨k, Nat.le_refl k, .inl rfl⟩
  serializer _ h := nomatch h

/-- The moves of a fair run in which a byte goes on the wire: the Serializer's, then ticks. -/
def sendThenTick : Nat → Event
  | 0 => .serialize
  | _ + 1 => .tick

/-- The states of that run, for the byte A5. -/
def sentByte : Nat → State
  | 0 => { idle .ready .uart [] with txFull := true, txReg := 0xA5 }
  | k + 1 => afterTicks { idle .ready .uart [] with txReg := 0xA5, wireTx := [0xA5], draws := 1 } k

theorem test_hyp_WireCarriesWhatTheSerializerEmits_fair :
    FairRun sendThenTick sentByte ∧ (sentByte 0).txFull = true where
  left := {
    run := fun
      | 0 => rfl
      | k + 1 => isRun_ticks (s := { idle .ready .uart [] with txReg := 0xA5, wireTx := [0xA5], draws := 1 }) rfl rfl
          (fun _ => rfl) k
    timeBase := fun k => ⟨k + 1, Nat.le_succ k, .inl rfl⟩
    serializer := fun k _ => ⟨k + 1, Nat.le_succ k, rfl⟩ }
  right := rfl

theorem test_hyp_WaitLastsExactlyItsTicks :
    (waiting .wakeup .wakeCell).rst = false ∧ (waiting .wakeup .wakeCell).busy = true
      ∧ (waiting .wakeup .wakeCell).locals.t0 = (waiting .wakeup .wakeCell).now
      ∧ (waiting .wakeup .wakeCell).phase = .wakeCell ∧ 2 = (waiting .wakeup .wakeCell).cfg.tBit
      ∧ (waiting .wakeup .wakeCell).script = List.replicate 2 .tick ++ []
      ∧ (waiting .connect .connectCell).phase = .connectCell ∧ (2 : Nat) ≤ 2 ∧ (2 : Nat) < 2 ^ 32
      ∧ (waiting .connect .connectIdle).phase = .connectIdle ∧ 2600 = (waiting .connect .connectIdle).cfg.tIdle
      ∧ (waiting .connect .connectW4).phase = .connectW4 ∧ 2 = (waiting .connect .connectW4).cfg.tW4
      ∧ (waiting .connect .connectW5).phase = .connectW5 ∧ 0 = (waiting .connect .connectW5).cfg.tW5
      ∧ (waiting .connect .connectW5).script = List.replicate 0 .tick ++ [.tick, .tick]
      ∧ (waiting .sendCmd .sendSpacing).phase = .sendSpacing
      ∧ 2 = (waiting .sendCmd .sendSpacing).cfg.tByte
      ∧ waited 2 (atTime 2 (waiting .wakeup .wakeCell)) = true := by decide

theorem test_hyp_NowCountsTicks :
    (idle .ready .uart [.tick]).rst = false ∧ nextEvent (idle .ready .uart [.tick]) = .tick
      ∧ engineEnabled (idle .ready .uart [.tick]) = false
      ∧ after (step (atTime 0xFFFFFFFF (idle .ready .uart [.tick]))) (fun t => t.now = 0) = true := by decide

theorem test_hyp_TickWaitsForTheEngine :
    (sending .sendTx 0 [.tick]).rst = false ∧ nextEvent (sending .sendTx 0 [.tick]) = .tick
      ∧ engineEnabled (sending .sendTx 0 [.tick]) = true
      ∧ after (step (sending .sendTx 0 [.tick])) (fun t => t.phase = .sendEcho) = true := by decide

theorem test_hyp_DisconnectReturnsToDisconnected :
    (running .connect .connectIdle .initializing .gpio []).busy = true := by decide

theorem test_hyp_FailedPreconditionsEndWithTheirError :
    (running .wakeup .start .ready .uart []).phase = .start
      ∧ (running .wakeup .start .ready .uart []).session ≠ .disconnected
      ∧ (running .wakeup .start .ready .uart []).session ≠ .faulted
      ∧ (running .transmit .start .disconnected .gpio []).phase = .start
      ∧ (running .transmit .start .disconnected .gpio []).lineMode = .gpio
      ∧ (running .connect .start .faulted .gpio []).session ≠ .disconnected
      ∧ (running .sendCmd .start .faulted .gpio []).session ≠ .ready
      ∧ (running .sendCmd .start .ready .uart []).session = .ready
      ∧ (running .sendCmd .start .ready .uart []).n < 1
      ∧ State.reset.cfg.pidBufSize < { rpm (running .sendCmd .start .ready .uart []) with cmdLen := 9 }.n
      ∧ State.reset.cfg.resBufSize < { rpm (running .sendCmd .start .ready .uart []) with expLen := 9 }.e := by
  decide

/-- WAKEUP after cell `k` has lasted its time. -/
def cellOver (i : Instr) (p : Phase) (k : Nat) : State :=
  { running i p (if i = .connect then .initializing else .disconnected) .gpio [.engine] with
    now := 200, kline := wakeLevel Config.default k, locals := { t0 := 0, idx := k, frame := [], received := [] } }

theorem test_hyp_WakeupDrivesTenCellsThenEnds :
    (running .wakeup .start .disconnected .gpio []).phase = .start
      ∧ elapsed { cellOver .wakeup .wakeCell 0 with now := 199 } 0 < 200 ∧ (7 : Nat) < 8
      ∧ (running .wakeup .start .disconnected .gpio []).session = .disconnected
      ∧ (running .wakeup .start .faulted .uart []).session = .faulted
      ∧ (cellOver .wakeup .wakeCell 8).phase = .wakeCell
      ∧ (cellOver .wakeup .wakeCell 8).cfg.tBit ≤ elapsed (cellOver .wakeup .wakeCell 8) 0
      ∧ (cellOver .wakeup .wakeCell 8).locals.t0 = 0 ∧ (cellOver .wakeup .wakeCell 8).locals.idx < 9
      ∧ (cellOver .wakeup .wakeCell 9).locals.idx = 9
      ∧ (cellOver .wakeup .wakeCell 9).cfg.tBit ≤ elapsed (cellOver .wakeup .wakeCell 9) 0 := by decide

/-- WAKEUP accepted, cells of 1 ms, with `n` ticks to come. -/
def wakeupAccepted (n : Nat) : State :=
  { running .wakeup .start .disconnected .gpio (List.replicate n .tick ++ []) with cfg := { tBit := 1 } }

theorem test_hyp_WakeupWaveformOverTime :
    (wakeupAccepted 10).rst = false ∧ (wakeupAccepted 10).busy = true ∧ (wakeupAccepted 10).phase = .start
      ∧ decode (wakeupAccepted 10).cmd = .command .wakeup ∧ (wakeupAccepted 10).session = .disconnected
      ∧ 1 ≤ (wakeupAccepted 10).cfg.tBit ∧ (wakeupAccepted 10).cfg.tBit < 2 ^ 32 ∧ (9 : Nat) ≤ 9
      ∧ 0 < (wakeupAccepted 10).cfg.tBit
      ∧ (wakeupAccepted 10).script = List.replicate (9 * (wakeupAccepted 10).cfg.tBit + 0 + 1) .tick ++ []
      ∧ (wakeupAccepted 11).script = List.replicate (10 * (wakeupAccepted 11).cfg.tBit + 1) .tick ++ [] := by decide

theorem test_hyp_TransmitBuffersItsByte :
    (running .transmit .start .ready .uart []).phase = .start
      ∧ (running .transmit .start .ready .uart []).lineMode = .uart
      ∧ (running .transmit .start .faulted .gpio []).lineMode ≠ .uart
      ∧ (running .transmit .transmitTx .ready .uart []).phase = .transmitTx
      ∧ (running .transmit .transmitTx .ready .uart []).txFull = false
      ∧ { running .transmit .transmitTx .ready .uart [] with txFull := true }.txFull = true := by decide

theorem test_hyp_ReceiveReturnsTheByte :
    ((withRx 0x11 (idle .ready .uart [])).lineMode = .uart ∧ (withRx 0x11 (idle .ready .uart [])).rxFull = true
        ∧ (idle .ready .uart []).lineMode = .uart ∧ (idle .ready .uart []).rxFull = false) ∧
    (withRx 0x11 (running .receive .start .ready .uart [])).rxFull = true
      ∧ (withRx 0x11 { running .receive .start .ready .uart [] with rxAtAccept := true }).rxFull = true
      ∧ (withRx 0x11 { running .receive .start .ready .uart [] with rxAtAccept := true }).rxAtAccept = true
      ∧ (withRx 0x11 (running .receive .start .ready .uart [])).rxAtAccept = false
      ∧ (running .receive .start .ready .uart []).phase = .start
      ∧ (running .receive .start .ready .uart []).lineMode = .uart
      ∧ (running .receive .start .ready .uart []).rxFull = false
      ∧ (running .receive .start .faulted .gpio []).lineMode ≠ .uart
      ∧ (withRx 0x11 (running .receive .receiveRx .ready .uart [])).phase = .receiveRx
      ∧ (limited (atTime 20 (running .receive .receiveRx .ready .uart []))).rxFull = false
      ∧ 0 < (limited (atTime 20 (running .receive .receiveRx .ready .uart []))).cfg.rxTimeout
      ∧ 20 ≤ elapsed (limited (atTime 20 (running .receive .receiveRx .ready .uart []))) 0
      ∧ (running .receive .receiveRx .ready .uart []).locals.t0 = 0
      ∧ (running .receive .receiveRx .ready .uart []).cfg.rxTimeout = 0
      ∧ elapsed (limited (atTime 19 (running .receive .receiveRx .ready .uart []))) 0 < 20 := by decide

/-- A byte waits in the transmit buffer. -/
def withTx (x : Byte) (s : State) : State := { s with txFull := true, txReg := x }

theorem test_hyp_WireCarriesWhatTheSerializerEmits :
    Inv (withTx 0xA5 (idle .ready .uart [.serialize])) ∧ (withTx 0xA5 (idle .ready .uart [.serialize])).rst = false
      ∧ nextEvent (withTx 0xA5 (idle .ready .uart [.serialize])) = .serialize
      ∧ (withTx 0xA5 (idle .ready .uart [.serialize])).txFull = true
      ∧ (withTx 0xA5 (idle .ready .uart [.serialize])).lineMode = .uart
      ∧ nextEvent (idle .faulted .gpio [.serialize]) = .serialize
      ∧ (idle .faulted .gpio [.serialize]).lineMode = .gpio ∧ (idle .ready .uart [.serialize]).txFull = false
      ∧ after (step (withTx 0xA5 (idle .ready .uart [.serialize]))) (fun t => t.wireTx = [0xA5]) = true :=
  ⟨inv_of_clauses (by decide) (by decide) (by decide), by decide⟩

theorem test_hyp_LineDeliveryAndOverrun :
    (idle .faulted .gpio [.deliver 1]).rst = false ∧ nextEvent (idle .faulted .gpio [.deliver 1]) = .deliver 1
      ∧ (idle .faulted .gpio [.deliver 1]).lineMode = .gpio
      ∧ (idle .ready .uart [.deliver 1]).lineMode = .uart ∧ (idle .ready .uart [.deliver 1]).rxFull = false
      ∧ nextEvent (idle .ready .uart [.deliver 1]) = .deliver 1
      ∧ (withRx 2 (idle .ready .uart [.deliver 1])).rxFull = true
      ∧ (withRx 2 (idle .ready .uart [.deliver 1])).cfg.overrunPolicy = .dropNew
      ∧ { withRx 2 (idle .ready .uart [.deliver 1]) with
          cfg := { overrunPolicy := .dropOld } }.cfg.overrunPolicy = .dropOld := by decide

theorem test_inv_sendTx : Inv (sending .sendTx 0 [.engine]) :=
  inv_of_clauses (by decide) (by decide) (by decide)

theorem test_inv_sendEcho : Inv (withRx 0xF1 (sending .sendEcho 2 [.engine])) :=
  inv_of_clauses (by decide) (by decide) (by decide)

theorem test_inv_sendResp : Inv (withRx 0xC0 (responding 7 [.engine])) :=
  inv_of_clauses (by decide) (by decide) (by decide)

theorem test_inv_reset_asserted : Inv (idle .ready .uart [.rstAssert]) :=
  inv_of_clauses (by decide) (by decide) (by decide)

theorem test_inv_delivery : Inv (idle .ready .uart [.deliver 1]) :=
  inv_of_clauses (by decide) (by decide) (by decide)

/-- WAKEUP accepted in Faulted and UART mode with a byte unsent (V-WK-5). -/
theorem test_inv_wakeup_start : Inv (withTx 1 (running .wakeup .start .faulted .uart [.engine])) :=
  inv_of_clauses (by decide) (by decide) (by decide)

/-- CONNECT at the end of its stop bit. -/
theorem test_inv_connectCell : Inv (cellOver .connect .connectCell 9) :=
  inv_of_clauses (by decide) (by decide) (by decide)

/-- CONNECT accepted. -/
theorem test_inv_connect_start : Inv (running .connect .start .disconnected .gpio [.engine]) :=
  inv_of_clauses (by decide) (by decide) (by decide)

/-- CONNECT at a receive after the sync byte, with `x` there. -/
def handshaking (p : Phase) (x : Byte) : State :=
  withRx x { running .connect p .initializing .uart [.engine] with keySync := 0x55 }

theorem test_inv_connectSync : Inv (handshaking .connectSync 0x54) :=
  inv_of_clauses (by decide) (by decide) (by decide)

theorem test_inv_connectKey1 : Inv (handshaking .connectKey1 0x08) :=
  inv_of_clauses (by decide) (by decide) (by decide)

theorem test_inv_connectKey2 : Inv (handshaking .connectKey2 0x08) :=
  inv_of_clauses (by decide) (by decide) (by decide)

theorem test_inv_connectAck : Inv (handshaking .connectAck 0xCC) :=
  inv_of_clauses (by decide) (by decide) (by decide)

theorem test_inv_connectAck_wrong : Inv (handshaking .connectAck 0xCD) :=
  inv_of_clauses (by decide) (by decide) (by decide)

/-- CONNECT with `ACK_ECHO` at a wrong echo of its step 5. -/
def wrongEcho : State := { handshaking .connectEcho 0x00 with cfg := { ackEcho := true } }

theorem test_inv_connectEcho : Inv wrongEcho := inv_of_clauses (by decide) (by decide) (by decide)

/-- SEND_CMD after the gap, beyond the keep-alive ceiling (V-KA-2). -/
def expired : State := atTime 5001 (sending .sendGap 0 [.engine])

theorem test_inv_expired : Inv expired := inv_of_clauses (by decide) (by decide) (by decide)

theorem test_inv_disconnect : Inv (running .disconnect .start .ready .uart [.engine]) :=
  inv_of_clauses (by decide) (by decide) (by decide)

theorem test_hyp_BuffersFillAndEmptyOnlyAsStated :
    (Inv (sending .sendTx 0 [.engine]) ∧ nextEvent (sending .sendTx 0 [.engine]) ≠ .rstAssert
        ∧ (sending .sendTx 0 [.engine]).txFull = false
        ∧ after (step (sending .sendTx 0 [.engine])) (fun t => t.txFull) = true)
      ∧ (Inv (withTx 1 (running .wakeup .start .faulted .uart [.engine]))
        ∧ (withTx 1 (running .wakeup .start .faulted .uart [.engine])).txFull = true
        ∧ after (step (withTx 1 (running .wakeup .start .faulted .uart [.engine]))) (fun t => !t.txFull) = true)
      ∧ (Inv (idle .ready .uart [.deliver 1]) ∧ (idle .ready .uart [.deliver 1]).rxFull = false
        ∧ after (step (idle .ready .uart [.deliver 1])) (fun t => t.rxFull) = true)
      ∧ (Inv (withRx 0xF1 (sending .sendEcho 2 [.engine])) ∧ (withRx 0xF1 (sending .sendEcho 2 [.engine])).rxFull = true
        ∧ after (step (withRx 0xF1 (sending .sendEcho 2 [.engine]))) (fun t => !t.rxFull) = true) :=
  ⟨⟨test_inv_sendTx, by decide⟩, ⟨test_inv_wakeup_start, by decide⟩, ⟨test_inv_delivery, by decide⟩,
    ⟨test_inv_sendEcho, by decide⟩⟩

theorem test_hyp_LineModeChangesOnlyAsStated :
    (Inv (withTx 1 (running .wakeup .start .faulted .uart [.engine]))
        ∧ after (step (withTx 1 (running .wakeup .start .faulted .uart [.engine]))) (fun t => t.lineMode = .gpio)
          = true)
      ∧ (Inv (cellOver .connect .connectCell 9)
        ∧ after (step (cellOver .connect .connectCell 9)) (fun t => t.lineMode = .uart) = true)
      ∧ (Inv (idle .ready .uart [.rstAssert])
        ∧ after (step (idle .ready .uart [.rstAssert])) (fun t => t.lineMode = .gpio) = true) :=
  ⟨⟨test_inv_wakeup_start, by decide⟩, ⟨test_inv_connectCell, by decide⟩, ⟨test_inv_reset_asserted, by decide⟩⟩

theorem test_hyp_OverrunFlagIsStickyUntilAccept :
    after (step (withRx 1 (idle .ready .uart [.deliver 2]))) (fun t => t.rxOverrun) = true
      ∧ after (step { idle .ready .uart [.hostWrite 0x00 3] with rxOverrun := true }) (fun t => !t.rxOverrun) = true
      ∧ after (step { idle .ready .uart [.rstAssert] with rxOverrun := true }) (fun t => !t.rxOverrun) = true := by
  decide

theorem test_hyp_ConnectWakesTheVehicleThenEntersUart :
    (running .connect .start .disconnected .gpio []).phase = .start
      ∧ (running .connect .start .disconnected .gpio []).session = .disconnected
      ∧ (atTime 2600 (running .connect .connectIdle .initializing .gpio [])).phase = .connectIdle
      ∧ 2600 ≤ elapsed (atTime 2600 (running .connect .connectIdle .initializing .gpio [])) 0
      ∧ (cellOver .connect .connectCell 8).phase = .connectCell ∧ (cellOver .connect .connectCell 8).locals.idx < 9
      ∧ 200 ≤ elapsed (cellOver .connect .connectCell 8) 0 ∧ (cellOver .connect .connectCell 9).locals.idx = 9 := by
  decide

theorem test_hyp_ConnectChecksTheSyncByte :
    (handshaking .connectSync 0x55).phase = .connectSync ∧ (handshaking .connectSync 0x55).rxFull = true
      ∧ (handshaking .connectSync 0x55).rxReg = (handshaking .connectSync 0x55).cfg.syncByte
      ∧ (handshaking .connectSync 0x54).rxReg ≠ (handshaking .connectSync 0x54).cfg.syncByte := by decide

theorem test_hyp_ConnectStoresKeyBytesUnchecked :
    (handshaking .connectKey1 0x01).rxFull = true ∧ (handshaking .connectKey1 0x01).phase = .connectKey1
      ∧ (handshaking .connectKey2 0x8A).phase = .connectKey2 ∧ (handshaking .connectAck 0xCD).busy = true
      ∧ after (exec .connect (handshaking .connectAck 0xCD))
        (fun t => t.busy = false ∧ t.errKind = .handshakeFailure) = true
      ∧ (Inv wrongEcho ∧ wrongEcho.busy = true ∧ after (exec .connect wrongEcho)
        (fun t => t.busy = false ∧ t.errKind = .handshakeFailure ∧ t.errPos = 5) = true) :=
  ⟨by decide, by decide, by decide, by decide, by decide, test_inv_connectEcho, by decide⟩

theorem test_hyp_ConnectAnswersWithComplementOfKey2 :
    (atTime 40 (running .connect .connectW4 .initializing .uart [])).phase = .connectW4
      ∧ 40 ≤ elapsed (atTime 40 (running .connect .connectW4 .initializing .uart [])) 0
      ∧ (running .connect .connectTx .initializing .uart []).phase = .connectTx
      ∧ (running .connect .connectTx .initializing .uart []).txFull = false
      ∧ (withRx 0xFF (running .connect .connectEcho .initializing .uart [])).phase = .connectEcho
      ∧ (withRx 0xFF (running .connect .connectEcho .initializing .uart [])).rxReg = ~~~(0x00 : Byte)
      ∧ (withRx 0xCC (running .connect .connectEcho .initializing .uart [])).rxReg ≠ ~~~(0x00 : Byte)
      ∧ (withRx 0xCC (running .connect .connectEcho .initializing .uart [])).key2 = 0x00 := by decide

theorem test_hyp_ConnectEndsReadyOnTheFinalByte :
    (atTime 40 (running .connect .connectW5 .initializing .uart [])).phase = .connectW5
      ∧ 40 ≤ elapsed (atTime 40 (running .connect .connectW5 .initializing .uart [])) 0
      ∧ (handshaking .connectAck 0xCC).phase = .connectAck ∧ (handshaking .connectAck 0xCC).rxFull = true
      ∧ (handshaking .connectAck 0xCC).rxReg = ~~~(handshaking .connectAck 0xCC).cfg.addrByte
      ∧ (handshaking .connectAck 0xCD).rxReg ≠ ~~~(handshaking .connectAck 0xCD).cfg.addrByte := by decide

/-- CONNECT at the receive `p`, 20 ms after it began to wait, with nothing there. -/
def silent (p : Phase) : State := atTime 20 (running .connect p .initializing .uart [])

theorem test_hyp_ConnectReceiveTimesOutWithItsStep :
    (silent .connectSync).rxFull = false ∧ (silent .connectSync).phase = .connectSync
      ∧ (silent .connectKey1).phase = .connectKey1 ∧ (silent .connectKey2).phase = .connectKey2
      ∧ (silent .connectEcho).phase = .connectEcho ∧ (silent .connectAck).phase = .connectAck
      ∧ 0 < (limited (silent .connectAck)).cfg.rxTimeout
      ∧ (limited (silent .connectAck)).cfg.rxTimeout ≤ elapsed (limited (silent .connectAck)) 0
      ∧ (silent .connectAck).cfg.rxTimeout = 0 := by decide

/-- CONNECT accepted, with the ticks of its time line to come. -/
def connectAccepted : State :=
  running .connect .start .disconnected .gpio (List.replicate (2600 + 10 * 200 + 1) .tick ++ [])

theorem test_hyp_ConnectReachesUartOnTime :
    (connectAccepted.rst = false ∧ connectAccepted.busy = true ∧ connectAccepted.phase = .start
        ∧ decode connectAccepted.cmd = .command .connect ∧ connectAccepted.session = .disconnected
        ∧ connectAccepted.cfg.legal = true)
      ∧ connectAccepted.script
        = List.replicate (connectAccepted.cfg.tIdle + 10 * connectAccepted.cfg.tBit + 1) .tick ++ [] :=
  ⟨by decide, rfl⟩

theorem test_hyp_SendCmdKeepsTheInterRequestGap :
    (rpm (running .sendCmd .start .ready .uart [])).phase = .start
      ∧ (rpm (running .sendCmd .start .ready .uart [])).session = .ready
      ∧ 1 ≤ (rpm (running .sendCmd .start .ready .uart [])).n
      ∧ (rpm (running .sendCmd .start .ready .uart [])).n ≤ State.reset.cfg.pidBufSize
      ∧ (rpm (running .sendCmd .start .ready .uart [])).e ≤ State.reset.cfg.resBufSize
      ∧ (sending .sendGap 0 []).phase = .sendGap ∧ elapsed (atTime 64 (sending .sendGap 0 [])) 0 < 65
      ∧ 65 ≤ elapsed (atTime 65 (sending .sendGap 0 [])) 0
      ∧ elapsed (atTime 5000 (sending .sendGap 0 [])) 0 ≤ 5000 ∧ (sending .sendGap 0 []).tCmdEnd = 0
      ∧ (sending .sendGap 0 []).cfg.tReq = 65 ∧ (sending .sendGap 0 []).cfg.tKa = 5000 := by decide

theorem test_hyp_SendCmdReportsSessionExpired :
    expired.phase = .sendGap ∧ expired.cfg.tReq ≤ elapsed expired expired.tCmdEnd ∧ kaExpired expired = true
      ∧ kaExpired (atTime 5000 (sending .sendGap 0 [])) = false
      ∧ 65 ≤ elapsed (atTime 5000 (sending .sendGap 0 [])) 0 := by decide

theorem test_hyp_SendCmdConfirmsEveryEcho :
    (sending .sendTx 0 []).phase = .sendTx ∧ (sending .sendTx 0 []).txFull = false
      ∧ (withRx 0x0C (sending .sendEcho 4 [])).phase = .sendEcho
      ∧ (withRx 0x0C (sending .sendEcho 4 [])).rxReg = (sending .sendEcho 4 []).locals.frame.getD 4 0
      ∧ (sending .sendEcho 4 []).locals.idx < (sending .sendEcho 4 []).n + 3
      ∧ (withRx 0xD0 (sending .sendEcho 5 [])).rxReg = (sending .sendEcho 5 []).locals.frame.getD 5 0
      ∧ (sending .sendEcho 5 []).locals.idx = (sending .sendEcho 5 []).n + 3
      ∧ (withRx 0xF0 (sending .sendEcho 2 [])).rxReg ≠ (sending .sendEcho 2 []).locals.frame.getD 2 0
      ∧ (atTime 10 (sending .sendSpacing 1 [])).phase = .sendSpacing
      ∧ 10 ≤ elapsed (atTime 10 (sending .sendSpacing 1 [])) 0
      ∧ elapsed (atTime 9 (sending .sendSpacing 1 [])) 0 < 10 ∧ State.reset.cfg.tByte = 10 := by decide

theorem test_hyp_SendCmdChecksEachResponseByte :
    (withRx 0x46 (responding 0 [])).phase = .sendResp ∧ (withRx 0x46 (responding 0 [])).rxFull = true
      ∧ (responding 0 []).locals.idx = 0 ∧ (responding 1 []).locals.idx = 1 ∧ (responding 2 []).locals.idx = 2
      ∧ (responding 4 []).locals.idx = 3 + 1 ∧ 1 < (responding 4 []).n
      ∧ 3 + (responding 5 []).n ≤ (responding 5 []).locals.idx
      ∧ (responding 6 []).locals.idx < 3 + (responding 6 []).n + (responding 6 []).e := by decide

theorem test_hyp_SendCmdCommitsTheResult :
    (withRx 0xC0 (responding 7 [])).phase = .sendResp ∧ (withRx 0xC0 (responding 7 [])).rxFull = true
      ∧ (responding 7 []).locals.idx = 3 + (responding 7 []).n + (responding 7 []).e
      ∧ (responding 7 []).cfg.verifyRxChecksum = false
      ∧ (withRx 0xC0 (responding 7 [])).rxReg = checksum (responding 7 []).locals.received
      ∧ (withRx 0xC1 (responding 7 [])).rxReg ≠ checksum (responding 7 []).locals.received
      ∧ { responding 7 [] with cfg := { verifyRxChecksum := true } }.cfg.verifyRxChecksum = true := by decide

theorem test_hyp_SendCmdReceiveTimesOutWithItsPosition :
    (limited (atTime 20 (sending .sendEcho 0 []))).rxFull = false
      ∧ 0 < (limited (atTime 20 (sending .sendEcho 0 []))).cfg.rxTimeout
      ∧ 20 ≤ elapsed (limited (atTime 20 (sending .sendEcho 0 []))) 0
      ∧ (limited (atTime 20 (sending .sendEcho 0 []))).phase = .sendEcho
      ∧ (limited (atTime 20 (responding 6 []))).phase = .sendResp
      ∧ 20 ≤ elapsed (limited (atTime 20 (responding 6 []))) 0 := by decide

theorem test_hyp_SendCmdFrame :
    after (exec .sendCmd (withRx 0xC0 (responding 7 []))) (fun t => t.busy = false ∧ t.resValid) = true
      ∧ after (exec .sendCmd (sending .sendTx 0 [])) (fun t => t.busy) = true
      ∧ (sending .sendTx 0 []).phase ≠ .sendResp ∧ (responding 7 []).phase ≠ .sendTx
      ∧ (responding 7 []).phase ≠ .sendEcho ∧ (sending .sendTx 0 []).phase ≠ .idle := by decide

theorem test_hyp_ConnectFrame :
    after (exec .connect (handshaking .connectKey1 0x08)) (fun t => t.key1 = 0x08 ∧ t.busy = true) = true
      ∧ (handshaking .connectKey1 0x08).key1 ≠ 0x08 ∧ (handshaking .connectKey1 0x08).phase ≠ .connectAck
      ∧ after (exec .connect (handshaking .connectKey2 0x08)) (fun t => t.key2 = 0x08) = true
      ∧ after (exec .connect (handshaking .connectSync 0x54)) (fun t => t.keySync = 0x54) = true
      ∧ (handshaking .connectKey1 0x08).phase ≠ .connectTx := by decide

theorem test_hyp_ShortCommandsFrame :
    Instr.receive ≠ .connect ∧ Instr.receive ≠ .sendCmd
      ∧ after (exec .receive (withRx 0x11 (running .receive .receiveRx .ready .uart []))) (fun t => !t.busy) = true
      ∧ after (exec .transmit (running .transmit .start .ready .uart [])) (fun t => t.busy) = true
      ∧ after (exec .wakeup (running .wakeup .start .faulted .uart [])) (fun t => t.busy) = true
      ∧ after (exec .disconnect (running .disconnect .start .ready .uart [])) (fun t => !t.busy) = true
      ∧ after (exec .nop (running .nop .start .ready .uart [])) (fun t => !t.busy) = true := by decide

/-- The block while `rst` is asserted. -/
def inReset (evs : List Event) : State := { State.reset with rst := true, script := evs }

theorem test_hyp_ResetAbandonsEverything :
    (sending .sendTx 0 [.rstAssert]).rst = false ∧ nextEvent (sending .sendTx 0 [.rstAssert]) = .rstAssert
      ∧ (inReset [.deliver 1]).rst = true ∧ nextEvent (inReset [.deliver 1]) = .deliver 1
      ∧ nextEvent (inReset [.engine]) = .engine ∧ nextEvent (inReset [.tick]) = .tick
      ∧ nextEvent (inReset [.serialize]) = .serialize ∧ nextEvent (inReset [.hostRead 0]) = .hostRead 0
      ∧ nextEvent (inReset [.hostWrite 0 4]) = .hostWrite 0 4 ∧ nextEvent (inReset [.rstAssert]) = .rstAssert
      ∧ nextEvent (inReset [.rstRelease]) = .rstRelease
      ∧ nextEvent (idle .ready .uart [.rstRelease]) = .rstRelease := by decide

theorem test_hyp_EveryStepKeepsTheInvariant :
    Inv (withRx 0xC0 (responding 7 [.engine]))
      ∧ after (step (withRx 0xC0 (responding 7 [.engine]))) (fun t => t.resValid) = true :=
  ⟨test_inv_sendResp, by decide⟩

/-- One state for each row of the table: rise to Initializing, to Ready, the two falls to Faulted, DISCONNECT,
reset. -/
theorem test_hyp_SessionTransitionsAreThoseOfTheTable :
    (Inv (running .connect .start .disconnected .gpio [.engine])
        ∧ engineMoves (running .connect .start .disconnected .gpio [.engine]) = true
        ∧ after (step (running .connect .start .disconnected .gpio [.engine]))
          (fun t => t.session = .initializing) = true)
      ∧ (Inv (handshaking .connectAck 0xCC)
        ∧ after (step (handshaking .connectAck 0xCC)) (fun t => t.session = .ready ∧ t.busy = false) = true)
      ∧ (Inv (handshaking .connectAck 0xCD)
        ∧ after (step (handshaking .connectAck 0xCD)) (fun t => t.session = .faulted ∧ t.busy = false) = true)
      ∧ (Inv expired ∧ engineMoves expired = true ∧ kaExpired expired = true
        ∧ after (step expired) (fun t => t.session = .faulted) = true)
      ∧ (Inv (running .disconnect .start .ready .uart [.engine])
        ∧ after (step (running .disconnect .start .ready .uart [.engine])) (fun t => t.session = .disconnected)
          = true)
      ∧ (Inv (idle .ready .uart [.rstAssert])
        ∧ after (step (idle .ready .uart [.rstAssert])) (fun t => t.session = .disconnected) = true) :=
  ⟨⟨test_inv_connect_start, by decide⟩, ⟨test_inv_connectAck, by decide⟩, ⟨test_inv_connectAck_wrong, by decide⟩,
    ⟨test_inv_expired, by decide⟩, ⟨test_inv_disconnect, by decide⟩, ⟨test_inv_reset_asserted, by decide⟩⟩

theorem test_hyp_NoStepStopsButAnAccessOutsideTheContract :
    Inv (sending .sendTx 0 [.engine]) ∧ (nextEvent (sending .sendTx 0 [.engine])).wellFormed = true
      ∧ Inv (reading 0x40) ∧ step (reading 0x40) = .refused .offsetOutsideSpace :=
  ⟨test_inv_sendTx, by decide, inv_of_clauses (by decide) (by decide) (by decide), rfl⟩

theorem test_hyp_ParametersNeverChange :
    after (step (idle .ready .uart [.rstAssert])) (fun t => t.rst) = true := by decide

theorem test_hyp_RequestBytesLeaveInFrameOrder :
    (Inv (sending .sendTx 0 [.engine])
        ∧ after (step (sending .sendTx 0 [.engine])) (fun t => t.phase = .sendEcho) = true)
      ∧ (Inv (withRx 0xD0 (sending .sendEcho 5 [.engine]))
        ∧ after (step (withRx 0xD0 (sending .sendEcho 5 [.engine]))) (fun t => t.phase = .sendResp) = true) :=
  ⟨⟨test_inv_sendTx, by decide⟩, inv_of_clauses (by decide) (by decide) (by decide), by decide⟩

theorem test_hyp_NoRequestByteOutsideReady :
    Inv (sending .sendTx 0 [.engine]) ∧ decode (sending .sendTx 0 [.engine]).cmd = .command .sendCmd
      ∧ (sending .sendTx 0 [.engine]).txFull = false
      ∧ after (step (sending .sendTx 0 [.engine])) (fun t => t.txFull) = true := ⟨test_inv_sendTx, by decide⟩

theorem test_hyp_ResultsChangeOnlyAtTheCommit :
    (Inv (withRx 0xC0 (responding 7 [.engine])) ∧ (withRx 0xC0 (responding 7 [.engine])).rst = false
        ∧ nextEvent (withRx 0xC0 (responding 7 [.engine])) ≠ .rstAssert
        ∧ after (step (withRx 0xC0 (responding 7 [.engine]))) (fun t => t.resBuf ≠ Buf8.zero ∧ t.resValid) = true)
      ∧ (Inv (atTime 4680 (handshaking .connectAck 0xCC))
        ∧ after (step (atTime 4680 (handshaking .connectAck 0xCC))) (fun t => t.lastOk = 4680) = true)
      ∧ (Inv expired ∧ decode expired.cmd = .command .sendCmd ∧ expired.busy = true
        ∧ after (step expired) (fun t => t.busy = false ∧ t.errKind = .sessionExpired) = true) :=
  ⟨⟨test_inv_sendResp, by decide⟩, ⟨inv_of_clauses (by decide) (by decide) (by decide), by decide⟩,
    ⟨test_inv_expired, by decide⟩⟩

theorem test_hyp_CodecErrorsLeaveTheSession :
    (withRx 0xF0 (sending .sendEcho 2 [])).busy = true
      ∧ after (exec .sendCmd (withRx 0xF0 (sending .sendEcho 2 [])))
        (fun t => t.busy = false ∧ t.errKind ≠ .sessionExpired) = true := by decide

theorem test_hyp_ResultsStandWhileIdle :
    Inv (idle .ready .uart [.hostWrite 0x00 5]) ∧ (idle .ready .uart [.hostWrite 0x00 5]).busy = false
      ∧ nextEvent (idle .ready .uart [.hostWrite 0x00 5]) ≠ .rstAssert
      ∧ after (step (idle .ready .uart [.hostWrite 0x00 5])) (fun t => t.busy) = true :=
  ⟨inv_of_clauses (by decide) (by decide) (by decide), by decide⟩

theorem test_hyp_KeysChangeOnlyAsTheirBytesArrive :
    (Inv (handshaking .connectSync 0x54) ∧ nextEvent (handshaking .connectSync 0x54) ≠ .rstAssert
        ∧ after (step (handshaking .connectSync 0x54)) (fun t => t.keySync = 0x54) = true)
      ∧ (Inv (handshaking .connectKey1 0x08)
        ∧ after (step (handshaking .connectKey1 0x08)) (fun t => t.key1 = 0x08) = true)
      ∧ (Inv (handshaking .connectKey2 0x08)
        ∧ after (step (handshaking .connectKey2 0x08)) (fun t => t.key2 = 0x08) = true) :=
  ⟨⟨test_inv_connectSync, by decide⟩, ⟨test_inv_connectKey1, by decide⟩, ⟨test_inv_connectKey2, by decide⟩⟩

end Sys2Proof.Tests
end

/-! ## The register file: its reset values, and the operands while a command runs (10_state.md) -/

namespace Sys2Proof.Machine

/-! ### Reset -/

/-- R53, the column "Reset" of the register map. -/
theorem readReg_reset (r : Reg) : readReg State.reset r = if r = .status then 0x00000010 else 0x00000000 := by
  cases r <;> rfl

/-- Settles O6: the registers by `readReg_reset`; the fields are those of the literal `State.reset`. -/
theorem resetLeavesTheStatedValues : Obligations.ResetLeavesTheStatedValues :=
  ⟨readReg_reset, rfl, rfl, rfl, rfl, rfl, rfl, rfl, rfl, rfl, rfl, rfl, rfl, rfl, rfl⟩

/-! ### Host writes -/

/-- The offset of a register passes the check of a host access and reaches that register (R23, R61). -/
@[simp] theorem onAccess_offset (r : Reg) (k : Reg → State) : onAccess r.offset k = .next (k r) := by
  cases r <;> rfl

@[simp] theorem hostWrite_offset (r : Reg) (v : Word) (s : State) :
    hostWrite r.offset v s = .next (writeReg r v s) :=
  onAccess_offset r _

/-- R44, R67: a write is lost while a command runs. -/
theorem writeReg_of_busy (r : Reg) (v : Word) {s : State} (h : s.busy = true) : writeReg r v s = s := if_pos h

/-- A host write to a register while `rst` is released (R67). -/
theorem step_hostWrite_offset {s : State} {r : Reg} {v : Word} (hr : s.rst = false)
    (he : nextEvent s = .hostWrite r.offset v) : step s = .next (writeReg r v (popEvent s)) := by
  simp [step, move, he, hr]

/-! ### What the agents' moves leave unchanged -/

/-- The Serializer's move changes the outgoing stream and `TX_FULL` and no other field (R165). -/
theorem serialize_eq (s : State) :
    serialize s = { s with wireTx := (serialize s).wireTx, txFull := (serialize s).txFull } := by
  unfold serialize; split <;> rfl

/-- A delivery changes the receive buffer and its two flags and no other field (R166, R167). -/
theorem deliver_eq (x : Byte) (s : State) :
    deliver x s = { s with
      rxReg := (deliver x s).rxReg, rxFull := (deliver x s).rxFull, rxOverrun := (deliver x s).rxOverrun } := by
  unfold deliver overrun
  split
  · rfl
  · split
    · split <;> rfl
    · rfl

/-- A move while `rst` is asserted changes the level of `rst` and no other field (R270). -/
theorem moveInReset_eq (e : Event) (s : State) :
    moveInReset e s = { s with rst := (moveInReset e s).rst } := by
  cases e <;> rfl

/-! ### The operands -/

/-- The operand registers of R44: `CMD`, `TXDATA`, the two fields of `FRAMECFG`, and `PIDBUF`. -/
def operands (s : State) : Word × Byte × BitVec 4 × BitVec 4 × Buf8 :=
  (s.cmd, s.txData, s.cmdLen, s.expLen, s.pidBuf)

theorem operands_eq_iff (s t : State) : operands t = operands s
    ↔ t.cmd = s.cmd ∧ t.txData = s.txData ∧ t.cmdLen = s.cmdLen ∧ t.expLen = s.expLen ∧ t.pidBuf = s.pidBuf := by
  simp [operands]

@[simp] theorem operands_popEvent (s : State) : operands (popEvent s) = operands s :=
  (congrArg operands (popEvent_eq s)).trans rfl

@[simp] theorem operands_tick (s : State) : operands (tick s) = operands s := rfl

@[simp] theorem operands_serialize (s : State) : operands (serialize s) = operands s :=
  (congrArg operands (serialize_eq s)).trans rfl

@[simp] theorem operands_deliver (x : Byte) (s : State) : operands (deliver x s) = operands s :=
  (congrArg operands (deliver_eq x s)).trans rfl

@[simp] theorem operands_moveInReset (e : Event) (s : State) : operands (moveInReset e s) = operands s :=
  (congrArg operands (moveInReset_eq e s)).trans rfl

theorem SegmentFrame.operands_eq {s t : State} (h : SegmentFrame s t) : operands t = operands s :=
  (operands_eq_iff s t).2 ⟨h.cmd, h.txData, h.cmdLen, h.expLen, h.pidBuf⟩

/-- R44: with a command running, every agent's move but the assertion of `rst` keeps the operands. The one move
that stores to them, a host write, is lost. -/
theorem step_operands {s t : State} (hb : s.busy = true) (hn : nextEvent s ≠ .rstAssert)
    (h : step s = .next t) : operands t = operands s := by
  rcases step_cases h with ⟨_, rfl⟩ | ⟨_, _, h⟩ | ⟨_, _, h⟩ | ⟨_, _, _, rfl⟩ | ⟨_, _, _, rfl⟩ | ⟨_, _, rfl⟩
    | ⟨_, x, _, rfl⟩ | ⟨_, a, _, _, rfl⟩ | ⟨_, a, v, _, _, rfl⟩ | ⟨_, he, _⟩ | ⟨_, _, rfl⟩
  -- a move under `rst`
  · simp
  -- the engine runs a segment, at its own move or before a waiting tick
  · exact (engineStep_segmentFrame h).operands_eq.trans (operands_popEvent s)
  · exact (engineStep_segmentFrame h).operands_eq
  -- the engine has no step; a tick; the Serializer; a delivery
  · simp
  · simp
  · simp
  · simp
  -- a host read changes the bus alone; a host write is lost
  · exact operands_popEvent s
  · rw [writeReg_of_busy (regAt a) v (by simpa using hb), operands_popEvent]
  -- `rst` is asserted or released by this move
  · exact absurd he hn
  · simp

/-- Settles O12: a host write through `step_hostWrite_offset`, every other step by `step_operands`. -/
theorem operandsHoldWhileACommandRuns : Obligations.OperandsHoldWhileACommandRuns := by
  refine ⟨fun s r v hr hb he => ?_, fun s t hb hn h => (operands_eq_iff s t).1 (step_operands hb hn h)⟩
  rw [step_hostWrite_offset hr he, writeReg_of_busy r v (by simpa using hb)]

end Sys2Proof.Machine

/-! ## The host register space: packing, writes and reads (20_memory.md) -/

namespace Sys2Proof.Machine

/-! ### The bytes of a buffer word (R64) -/

/-- Byte `j` of the word of four bytes is the one named `j`, byte 0 in the low bits. -/
theorem byteOfWord_append (f : Nat → Byte) {j : Nat} (hj : j < 4) :
    byteOfWord (f 3 ++ f 2 ++ f 1 ++ f 0) j = f j := by
  unfold byteOfWord
  match j, hj with
  | 0, _ => exact BitVec.extractLsb'_append_eq_right
  | 1, _ => rw [BitVec.extractLsb'_append_eq_of_le (by decide)]; exact BitVec.extractLsb'_append_eq_right
  | 2, _ =>
    rw [BitVec.extractLsb'_append_eq_of_le (by decide), BitVec.extractLsb'_append_eq_of_le (by decide)]
    exact BitVec.extractLsb'_append_eq_right
  | 3, _ =>
    rw [BitVec.extractLsb'_append_eq_of_le (by decide), BitVec.extractLsb'_append_eq_of_le (by decide)]
    exact BitVec.extractLsb'_append_eq_left

/-- Buffer byte `i` stands at byte `i % 4` of word `i / 4`, and reads 0 from the buffer's size on (R40, R41, R64). -/
theorem byteOfWord_packWord (size : Nat) (b : Buf8) (i : Nat) :
    byteOfWord (packWord size b (i / 4)) (i % 4) = if i < size then b.get i else 0 := by
  have hf := byteOfWord_append (fun j => if 4 * (i / 4) + j < size then b.get (4 * (i / 4) + j) else 0)
    (Nat.mod_lt i (by decide))
  rwa [Nat.div_add_mod] at hf

theorem readReg_pidBuf_word (s : State) {k : Nat} (hk : k < 2) :
    readReg s (regAt (BitVec.ofNat 32 (0x20 + 4 * k))) = packWord s.cfg.pidBufSize s.pidBuf k := by
  match k, hk with
  | 0, _ => rfl
  | 1, _ => rfl

theorem readReg_resBuf_word (s : State) {k : Nat} (hk : k < 2) :
    readReg s (regAt (BitVec.ofNat 32 (0x28 + 4 * k))) = packWord s.cfg.resBufSize s.resBuf k := by
  match k, hk with
  | 0, _ => rfl
  | 1, _ => rfl

theorem storeReg_pidBuf_word (v : Word) (s : State) {k : Nat} (hk : k < 2) :
    (storeReg (if k = 0 then .pidBuf0 else .pidBuf1) v s).pidBuf
      = storeWord s.cfg.pidBufSize s.pidBuf k v := by
  match k, hk with
  | 0, _ => rfl
  | 1, _ => rfl

/-- Command byte `i` is byte `i` of `PIDBUF` (R96). -/
theorem pidBytes_getD (b : Buf8) {i n : Nat} (h : i < n) : (pidBytes b n).getD i 0 = b.get i := by
  simp [pidBytes, List.getD, h]

/-- Settles O8: reads by `byteOfWord_packWord` at the word's register, host stores by `storeWord_get`. -/
theorem bufferBytesArePackedLittleEndian : Obligations.BufferBytesArePackedLittleEndian := by
  intro s i hi
  have hk : i / 4 < 2 := by omega
  refine ⟨?_, ?_, fun n hn => pidBytes_getD s.pidBuf hn, fun v k hk => ?_⟩
  · rw [readReg_pidBuf_word s hk]; exact byteOfWord_packWord _ _ i
  · rw [readReg_resBuf_word s hk]; exact byteOfWord_packWord _ _ i
  · rw [storeReg_pidBuf_word v s hk]; exact storeWord_get _ _ k v hi

/-! ### Host writes (R67) -/

theorem writeReg_of_idle (r : Reg) (v : Word) {s : State} (h : s.busy = false) :
    writeReg r v s = storeReg r v s := by
  simp [writeReg, h]

/-- A buffer is known by its eight bytes. -/
theorem buf8_ext_get {a b : Buf8} (h : ∀ i < 8, a.get i = b.get i) : a = b := by
  cases a; cases b
  simp only [Buf8.mk.injEq]
  exact ⟨h 0 (by decide), h 1 (by decide), h 2 (by decide), h 3 (by decide),
    h 4 (by decide), h 5 (by decide), h 6 (by decide), h 7 (by decide)⟩

/-- Storing the same word twice is storing it once. -/
theorem storeWord_storeWord (size : Nat) (b : Buf8) (k : Nat) (v : Word) :
    storeWord size (storeWord size b k v) k v = storeWord size b k v := by
  refine buf8_ext_get fun i hi => ?_
  simp only [storeWord_get _ _ _ _ hi]
  split <;> rfl

/-- Only a write to `CMD` changes `BUSY` (R67). -/
theorem storeReg_busy {r : Reg} (h : r ≠ .cmd) (v : Word) (s : State) : (storeReg r v s).busy = s.busy := by
  cases r
  case cmd => exact absurd rfl h
  all_goals rfl

/-- A word with no writable field ignores the write (R67). -/
theorem storeReg_of_readOnly {r : Reg} (v : Word) (s : State) (h₁ : r ≠ .cmd) (h₂ : r ≠ .txData)
    (h₃ : r ≠ .frameCfg) (h₄ : r ≠ .pidBuf0) (h₅ : r ≠ .pidBuf1) : storeReg r v s = s := by
  cases r
  case cmd => exact absurd rfl h₁
  case txData => exact absurd rfl h₂
  case frameCfg => exact absurd rfl h₃
  case pidBuf0 => exact absurd rfl h₄
  case pidBuf1 => exact absurd rfl h₅
  all_goals rfl

theorem storeReg_storeReg {r : Reg} (h : r ≠ .cmd) (v : Word) (s : State) :
    storeReg r v (storeReg r v s) = storeReg r v s := by
  cases r
  case cmd => exact absurd rfl h
  case pidBuf0 => simp [storeReg, storeWord_storeWord]
  case pidBuf1 => simp [storeReg, storeWord_storeWord]
  all_goals rfl

/-- A repeated write is one write, except at `CMD` (R67). -/
theorem writeReg_writeReg {r : Reg} (h : r ≠ .cmd) (v : Word) (s : State) :
    writeReg r v (writeReg r v s) = writeReg r v s := by
  rcases Bool.eq_false_or_eq_true s.busy with hb | hb
  · simp only [writeReg_of_busy r v hb]
  · rw [writeReg_of_idle r v hb, writeReg_of_idle r v ((storeReg_busy h v s).trans hb), storeReg_storeReg h]

/-- Settles O10: the step is `writeReg` by `step_hostWrite_offset`, which is the state itself while a command runs
and `storeReg` while none does. -/
theorem hostWriteStoresTheWritableFields : Obligations.HostWriteStoresTheWritableFields := by
  intro s r v hr he
  have hs := step_hostWrite_offset hr he
  refine ⟨fun hb => ?_, fun hb => ?_, fun h => writeReg_writeReg h v s⟩
  · rwa [writeReg_of_busy r v (by simpa using hb)] at hs
  · rw [writeReg_of_idle r v (by simpa using hb)] at hs
    rw [hs]
    refine ⟨?_, ?_, ?_, ?_, ?_, ?_⟩
    -- `CMD`, `TXDATA` and `FRAMECFG`
    · rintro rfl; rfl
    · rintro rfl; rfl
    · rintro rfl; rfl
    -- `PIDBUF`, whose size is a parameter; then the words that ignore the write
    · rintro rfl; simp [storeReg]
    · rintro rfl; simp [storeReg]
    · intro h₁ h₂ h₃ h₄ h₅; rw [storeReg_of_readOnly v _ h₁ h₂ h₃ h₄ h₅]

/-! ### Host reads (R66) -/

/-- What a register reads does not depend on the agents' coming moves. -/
@[simp] theorem readReg_popEvent (s : State) (r : Reg) : readReg (popEvent s) r = readReg s r :=
  (congrArg (readReg · r) (popEvent_eq s)).trans rfl

theorem onAccess_of_wellFormed {a : Word} (h : accessWellFormed a = true) (k : Reg → State) :
    onAccess a k = .next (k (regAt a)) := by
  simp only [accessWellFormed, Bool.and_eq_true, decide_eq_true_eq, beq_iff_eq] at h
  rcases onAccess_cases a k with ⟨_, _⟩ | ⟨_, _, _⟩ | ⟨_, _, e⟩
  · omega
  · omega
  · exact e

/-- A host read while `rst` is released changes the bus data alone. -/
theorem step_hostRead {s : State} {a : Word} (hr : s.rst = false) (he : nextEvent s = .hostRead a)
    (ha : accessWellFormed a = true) :
    step s = .next { popEvent s with busData := readReg s (regAt a) } := by
  simp [step, move, he, hr, hostRead, onAccess_of_wellFormed ha]

@[simp] theorem regAt_offset (r : Reg) : regAt r.offset = r := by cases r <;> rfl

/-- The offsets of the register map are aligned and end at 0x3C (R23). -/
theorem offset_bounds (r : Reg) : r.offset.toNat ≤ 0x3C ∧ r.offset.toNat % 4 = 0 := by
  cases r <;> decide

/-- R25 lists bits 9 to 0 of `STATUS`. -/
theorem statusWord_unlisted (s : State) : (statusWord s).extractLsb' 10 22 = 0 := by
  unfold statusWord
  iterate 9 rw [BitVec.extractLsb'_append_eq_of_le (by decide)]
  exact BitVec.extractLsb'_zero

/-- The top byte of a word of three fields, such as `ERROR` (R34) and `KEYS` (R35), is unlisted. -/
theorem unlisted_of_three_bytes (x y z : Byte) : (0#8 ++ x ++ y ++ z).extractLsb' 24 8 = 0 := by
  iterate 2 rw [BitVec.extractLsb'_append_eq_of_le (by decide)]
  exact BitVec.extractLsb'_append_eq_left

/-- R38 lists bits 3 to 0 and 11 to 8 of `FRAMECFG`. -/
theorem frameCfgWord_unlisted (s : State) :
    (frameCfgWord s).extractLsb' 4 4 = 0 ∧ (frameCfgWord s).extractLsb' 12 20 = 0 := by
  unfold frameCfgWord
  constructor
  · rw [BitVec.extractLsb'_append_eq_of_le (by decide)]
    exact BitVec.extractLsb'_append_eq_right
  · iterate 2 rw [BitVec.extractLsb'_append_eq_of_le (by decide)]
    exact BitVec.extractLsb'_append_eq_left

/-- R39 lists bits 15 to 0 of `RXCSUM`. -/
theorem rxCsumWord_unlisted (s : State) : (rxCsumWord s).extractLsb' 16 16 = 0 := by
  unfold rxCsumWord
  rw [BitVec.extractLsb'_append_eq_of_le (by decide)]
  exact BitVec.extractLsb'_append_eq_left

/-- Settles O9: the step by `step_hostRead`, the unlisted bits by the register's word. -/
theorem hostReadReturnsTheRegisterAndChangesNothing :
    Obligations.HostReadReturnsTheRegisterAndChangesNothing := by
  refine ⟨by decide, fun r => ⟨regAt_offset r, offset_bounds r⟩, fun s a hr he h4 hle => ?_⟩
  have ha : accessWellFormed a = true := by simp [accessWellFormed, h4]; omega
  obtain ⟨hlo, hhi⟩ := frameCfgWord_unlisted s
  exact ⟨step_hostRead hr he ha, statusWord_unlisted s, unlisted_of_three_bytes _ _ _,
    unlisted_of_three_bytes _ _ _, BitVec.extractLsb'_append_eq_left, BitVec.extractLsb'_append_eq_left,
    hlo, hhi, rxCsumWord_unlisted s, rfl, rfl⟩

end Sys2Proof.Machine

/-! ## Command words: the decoder and the encoder (30_encoding.md) -/

namespace Sys2Proof

/-! ### The two fields of a command word (R90) -/

/-- A command word is `RSVD` above `OPCODE`. -/
theorem word_toNat_eq_fields (w : Word) : w.toNat = 256 * (rsvdField w).toNat + (opcodeField w).toNat := by
  simp only [rsvdField, opcodeField, BitVec.extractLsb'_toNat, Nat.shiftRight_eq_div_pow]
  omega

/-- A command word is known by its two fields. -/
theorem word_eq_iff_fields (v w : Word) :
    v = w ↔ rsvdField v = rsvdField w ∧ opcodeField v = opcodeField w := by
  refine ⟨fun h => h ▸ ⟨rfl, rfl⟩, fun ⟨hr, ho⟩ => BitVec.eq_of_toNat_eq ?_⟩
  rw [word_toNat_eq_fields, word_toNat_eq_fields w, hr, ho]

/-! ### The opcode map (R93) -/

/-- The per-command facts of `Laws.EncodeFields`, for every command. -/
theorem encodeFields (i : Instr) : Laws.EncodeFields.Statement i :=
  match i with
  | .nop => Laws.EncodeFields.nop
  | .wakeup => Laws.EncodeFields.wakeup
  | .transmit => Laws.EncodeFields.transmit
  | .receive => Laws.EncodeFields.receive
  | .connect => Laws.EncodeFields.connect
  | .sendCmd => Laws.EncodeFields.sendCmd
  | .disconnect => Laws.EncodeFields.disconnect

@[simp] theorem rsvdField_encode (i : Instr) : rsvdField (encode i) = 0 :=
  let ⟨hrsvd, _, _, _⟩ := encodeFields i; hrsvd

@[simp] theorem opcodeField_encode (i : Instr) : opcodeField (encode i) = opcodeOf i :=
  let ⟨_, hopcode, _, _⟩ := encodeFields i; hopcode

theorem commandOfOpcode_opcodeOf (i : Instr) : commandOfOpcode (opcodeOf i).toNat = some i :=
  let ⟨_, _, _, hmap⟩ := encodeFields i; hmap

/-- `commandOfOpcode` and `opcodeOf` are inverse to each other. -/
theorem commandOfOpcode_eq_some_iff (op : Byte) (i : Instr) :
    commandOfOpcode op.toNat = some i ↔ op = opcodeOf i := by
  constructor
  · intro h
    apply BitVec.eq_of_toNat_eq
    unfold commandOfOpcode at h
    split at h <;> cases h <;> assumption
  · rintro rfl
    exact commandOfOpcode_opcodeOf i

/-- The opcodes in use are 0x00 to 0x06. -/
theorem commandOfOpcode_eq_none_iff (op : Nat) : commandOfOpcode op = none ↔ 0x07 ≤ op := by
  constructor
  · have hused : ∀ k < 0x07, commandOfOpcode k ≠ none := by decide
    exact fun h => Nat.le_of_not_lt fun hlt => hused op hlt h
  · intro h
    obtain ⟨k, rfl⟩ := Nat.exists_eq_add_of_le' h
    rfl

theorem opcodeOf_toNat_lt (i : Instr) : (opcodeOf i).toNat < 0x07 := by cases i <;> decide

/-! ### Decoding (R94) -/

theorem decode_of_rsvd_ne_zero {w : Word} (h : rsvdField w ≠ 0) : decode w = .illegal .reservedBits := if_neg h

theorem decode_of_command {w : Word} {i : Instr} (hr : rsvdField w = 0)
    (ho : commandOfOpcode (opcodeField w).toNat = some i) : decode w = .command i := by
  rw [decode, if_pos hr, ho]

theorem decode_of_unknown {w : Word} (hr : rsvdField w = 0)
    (ho : commandOfOpcode (opcodeField w).toNat = none) : decode w = .illegal .unknownOpcode := by
  rw [decode, if_pos hr, ho]

/-- What `decode` can answer, and when. -/
theorem decode_cases (w : Word) :
    (rsvdField w ≠ 0 ∧ decode w = .illegal .reservedBits)
      ∨ (rsvdField w = 0 ∧ 0x07 ≤ (opcodeField w).toNat ∧ decode w = .illegal .unknownOpcode)
      ∨ ∃ i, w = encode i ∧ decode w = .command i := by
  by_cases hr : rsvdField w = 0
  · cases ho : commandOfOpcode (opcodeField w).toNat with
    | none => exact .inr (.inl ⟨hr, (commandOfOpcode_eq_none_iff _).1 ho, decode_of_unknown hr ho⟩)
    | some i =>
      have hop := (commandOfOpcode_eq_some_iff _ i).1 ho
      exact .inr (.inr ⟨i, (word_eq_iff_fields w _).2 (by simp [hr, hop]), decode_of_command hr ho⟩)
  · exact .inl ⟨hr, decode_of_rsvd_ne_zero hr⟩

@[simp] theorem decode_encode (i : Instr) : decode (encode i) = .command i :=
  decode_of_command (rsvdField_encode i) ((commandOfOpcode_eq_some_iff _ i).2 (opcodeField_encode i))

theorem decode_eq_command_iff (w : Word) (i : Instr) : decode w = .command i ↔ w = encode i := by
  constructor
  · intro h
    rcases decode_cases w with ⟨_, e⟩ | ⟨_, _, e⟩ | ⟨j, hw, e⟩
    · cases e.symm.trans h
    · cases e.symm.trans h
    · cases e.symm.trans h; exact hw
  · rintro rfl
    exact decode_encode i

theorem decode_isIllegal_iff (w : Word) :
    (∃ why, decode w = .illegal why) ↔ rsvdField w ≠ 0 ∨ 0x07 ≤ (opcodeField w).toNat := by
  rcases decode_cases w with ⟨hr, e⟩ | ⟨_, ho, e⟩ | ⟨i, rfl, e⟩
  · exact iff_of_true ⟨_, e⟩ (.inl hr)
  · exact iff_of_true ⟨_, e⟩ (.inr ho)
  · have hlt := opcodeOf_toNat_lt i
    simp [e, hlt]

/-- Settles O2: the word by its fields, then `decode_eq_command_iff` and `decode_isIllegal_iff`. -/
theorem everyWordDecodesToOneCommandOrIsIllegal : Obligations.EveryWordDecodesToOneCommandOrIsIllegal :=
  ⟨⟨rfl, rfl, rfl, rfl, rfl, rfl, rfl⟩, fun w =>
    ⟨word_toNat_eq_fields w, decode_eq_command_iff w, decode_isIllegal_iff w⟩⟩

end Sys2Proof

/-! ## The operand words of `send_command` (30_encoding.md R97) -/

namespace Sys2Proof.Machine

/-! ### `FRAMECFG` -/

/-- `(e << 8) | n` as a number, for operands that fit their fields. -/
theorem frameCfgOperand_toNat {n e : Nat} (hn : n < 2 ^ 8) (he : e < 2 ^ 24) :
    (frameCfgOperand n e).toNat = e * 2 ^ 8 + n := by
  rw [← Nat.shiftLeft_eq, Nat.shiftLeft_add_eq_or_of_lt hn]
  simp only [frameCfgOperand, BitVec.toNat_or, BitVec.toNat_shiftLeft, BitVec.toNat_ofNat]
  rw [Nat.mod_eq_of_lt (a := e) (by omega), Nat.mod_eq_of_lt (a := n) (by omega), Nat.mod_eq_of_lt]
  rw [Nat.shiftLeft_eq]; omega

/-- `FRAMECFG` gives back the length and the expected length written to it (R38, R96). -/
theorem storeReg_frameCfgOperand_n {n : Nat} (e : Nat) (s : State) (hn : n < 16) (he : e < 2 ^ 24) :
    (storeReg .frameCfg (frameCfgOperand n e) s).n = n := by
  simp only [storeReg, State.n, BitVec.extractLsb'_toNat, frameCfgOperand_toNat (Nat.lt_trans hn (by decide)) he,
    Nat.shiftRight_eq_div_pow]
  omega

theorem storeReg_frameCfgOperand_e {n e : Nat} (s : State) (hn : n < 2 ^ 8) (he : e < 16) :
    (storeReg .frameCfg (frameCfgOperand n e) s).e = e := by
  simp only [storeReg, State.e, BitVec.extractLsb'_toNat, frameCfgOperand_toNat hn (Nat.lt_trans he (by decide)),
    Nat.shiftRight_eq_div_pow]
  omega

/-! ### `PIDBUF` -/

theorem byteOfWord_wordOfBytes (p : List Byte) {j : Nat} (hj : j < 4) :
    byteOfWord (wordOfBytes p) j = p.getD j 0 :=
  byteOfWord_append (p.getD · 0) hj

/-- `PIDBUF` after the host's writes of the words of `p` to both its registers. -/
def storeBytes (size : Nat) (b : Buf8) (p : List Byte) : Buf8 :=
  storeWord size (storeWord size b 0 (wordOfBytes p)) 1 (wordOfBytes (p.drop 4))

theorem storeReg_pidBuf_words (p : List Byte) (s : State) :
    (storeReg .pidBuf1 (wordOfBytes (p.drop 4)) (storeReg .pidBuf0 (wordOfBytes p) s)).pidBuf
      = storeBytes s.cfg.pidBufSize s.pidBuf p := rfl

theorem storeBytes_get {size i : Nat} (b : Buf8) (p : List Byte) (h8 : i < 8) (hs : i < size) :
    (storeBytes size b p).get i = p.getD i 0 := by
  rw [storeBytes, storeWord_get _ _ _ _ h8, storeWord_get _ _ _ _ h8]
  rcases Nat.lt_or_ge i 4 with h4 | h4
  · have hk : i / 4 = 0 := by omega
    simp [hk, hs, Nat.mod_eq_of_lt h4, byteOfWord_wordOfBytes p h4]
  · have hk : i / 4 = 1 := by omega
    have hi : 4 + i % 4 = i := by omega
    simp [hk, hs, byteOfWord_wordOfBytes, Nat.mod_lt, hi]

/-- The stored bytes read back as `p`, if they fit the buffer. -/
theorem pidBytes_storeBytes {size : Nat} (b : Buf8) {p : List Byte} (h8 : p.length ≤ 8) (hs : p.length ≤ size) :
    pidBytes (storeBytes size b p) p.length = p := by
  refine List.ext_getElem (by simp) fun i hi hp => ?_
  simp [pidBytes, storeBytes_get b p (Nat.lt_of_lt_of_le hp h8) (Nat.lt_of_lt_of_le hp hs), hp]

/-- Settles O3: `FRAMECFG` gives back both lengths, `PIDBUF` the bytes by `pidBytes_storeBytes`. -/
theorem sendCmdOperandWordsReadBackAsWritten : Obligations.SendCmdOperandWordsReadBackAsWritten := by
  intro s p e hs h8 he t
  have hn : t.n = p.length := storeReg_frameCfgOperand_n e _ (by omega) (by omega)
  have hp : t.pidBuf = storeBytes s.cfg.pidBufSize s.pidBuf p := storeReg_pidBuf_words p s
  refine ⟨hn, storeReg_frameCfgOperand_e _ (by omega) (by omega), ?_, by decide⟩
  rw [hn, hp, pidBytes_storeBytes s.pidBuf h8 hs]

end Sys2Proof.Machine

/-! ## The request frame (30_encoding.md R100) -/

namespace Sys2Proof.Machine

/-- The checksum is the sum of the bytes modulo 256 (R9, R101). -/
theorem checksum_toNat (l : List Byte) : (checksum l).toNat = (l.map BitVec.toNat).sum % 256 := by
  induction l with
  | nil => rfl
  | cons b rest ih => simp [checksum, ih]

/-- The bytes of the request frame before its checksum. -/
def requestBody (c : Config) (p : List Byte) : List Byte :=
  (c.reqLenBase + BitVec.ofNat 8 p.length) :: c.dest :: c.src :: p

theorem requestFrame_eq (c : Config) (p : List Byte) :
    requestFrame c p = requestBody c p ++ [checksum (requestBody c p)] := rfl

@[simp] theorem requestBody_length (c : Config) (p : List Byte) : (requestBody c p).length = 3 + p.length := by
  simp [requestBody]; omega

@[simp] theorem requestFrame_length (c : Config) (p : List Byte) : (requestFrame c p).length = p.length + 4 := by
  simp [requestFrame_eq]; omega

/-- The command bytes stand in the frame from position 3 on. -/
theorem requestFrame_getD_command (c : Config) {p : List Byte} {j : Nat} (hj : j < p.length) :
    (requestFrame c p).getD (3 + j) 0 = p.getD j 0 := by
  rw [requestFrame_eq, List.getD_append _ _ _ _ (by simpa using hj), Nat.add_comm]
  rfl

/-- The last byte of the frame is the checksum of all bytes before it. -/
theorem requestFrame_getD_last (c : Config) (p : List Byte) :
    (requestFrame c p).getD (3 + p.length) 0 = checksum ((requestFrame c p).take (3 + p.length)) := by
  rw [requestFrame_eq, ← requestBody_length c p, List.take_left]
  simp

/-- With the default `REQ_LEN_BASE` the length byte does not wrap (R102). -/
theorem requestFrame_default_length_byte {p : List Byte} (h : p.length ≤ 8) :
    ((requestFrame Config.default p).getD 0 0).toNat = 0x66 + p.length := by
  have hb : (requestFrame Config.default p).getD 0 0 = 0x66#8 + BitVec.ofNat 8 p.length := rfl
  simp only [hb, BitVec.toNat_add, BitVec.toNat_ofNat]
  omega

/-- Settles O4: byte by byte, the last by `requestFrame_getD_last` and `checksum_toNat`. -/
theorem requestFrameLayoutAndChecksum : Obligations.RequestFrameLayoutAndChecksum := by
  refine ⟨fun c p => ⟨requestFrame_length c p, rfl, rfl, rfl, fun j => requestFrame_getD_command c, ?_⟩,
    fun p _ h => requestFrame_default_length_byte h, by decide⟩
  rw [requestFrame_getD_last, checksum_toNat]

end Sys2Proof.Machine

/-! ## The command engine: acceptance, illegal words, NOP and the waits (40_control.md) -/

namespace Sys2Proof.Machine

/-! ### Acceptance and the first segment (R121, R131) -/

theorem engineStep_of_command {s : State} {i : Instr} (h : decode s.cmd = .command i) :
    engineStep s = exec i s := by
  rw [engineStep, h]

theorem engineStep_of_illegal {s : State} {why : IllegalWord} (h : decode s.cmd = .illegal why) :
    engineStep s = .next (illegalCommand s) := by
  rw [engineStep, h]

/-- R121: the first segment of an accepted command waits for nothing. -/
@[simp] theorem engineEnabled_accept (v : Word) (s : State) : engineEnabled (accept v s) = true := rfl

/-- R121: the effect of acceptance; `rxAtAccept` is the model's own field (log 10). -/
theorem accept_eq (v : Word) (s : State) :
    { accept v s with rxAtAccept := s.rxAtAccept }
      = { s with cmd := v, busy := true, rxOverrun := false, phase := .start,
                 locals := { t0 := 0, idx := 0, frame := [], received := [] } } := rfl

/-- R67, R121: a host write to `CMD` while no command runs. -/
theorem step_hostWrite_cmd_of_idle {s : State} {v : Word} (hr : s.rst = false)
    (he : nextEvent s = .hostWrite Reg.cmd.offset v) (hb : s.busy = false) :
    step s = .next (accept v (popEvent s)) := by
  rw [step_hostWrite_offset hr he, writeReg_of_idle .cmd v (by simpa using hb)]
  rfl

/-- Settles O14: the step is `accept` by `step_hostWrite_cmd_of_idle`; a write while busy is lost by
`writeReg_of_busy`. -/
theorem writeToCmdAcceptsACommand : Obligations.WriteToCmdAcceptsACommand := by
  refine fun s v hr he => ⟨fun hb => ?_, fun hb => ?_⟩
  · refine ⟨accept v (popEvent s), step_hostWrite_cmd_of_idle hr he hb, ?_, engineEnabled_accept v _,
      fun i hi => engineStep_of_command hi⟩
    rw [← accept_eq, popEvent_rxAtAccept]
  · rw [step_hostWrite_offset (r := .cmd) hr he, writeReg_of_busy .cmd v (by simpa using hb)]

/-- R246: `ERROR` after an error, by its three fields. -/
theorem readReg_error_raiseError (k : ErrorKind) (byte pos : Byte) (s : State) :
    readReg (raiseError k byte pos s) .error = 0#8 ++ pos ++ byte ++ k.code := rfl

/-- Settles O15: the word decodes as illegal by `decode_isIllegal_iff`, so the engine's step is `illegalCommand`. -/
theorem illegalWordEndsWithIllegalCommand : Obligations.IllegalWordEndsWithIllegalCommand := by
  intro s v h
  obtain ⟨why, hw⟩ := (decode_isIllegal_iff v).2 h
  exact ⟨⟨illegalCommand (accept v s), engineStep_of_illegal hw, rfl⟩, readReg_error_raiseError ..⟩

/-- Settles O21: NOP's one segment is `finish`, from any state and so from the one its acceptance makes. -/
theorem nopOnlyEndsAndClearsError : Obligations.NopOnlyEndsAndClearsError :=
  ⟨rfl, fun s => ⟨rfl, finish (accept 0x00000000 s), rfl, rfl⟩⟩

/-! ### Runs of ticks (R255, R256) -/

/-- `s` after `k` ticks, with the moves `rest` still to come. -/
def State.ticked (s : State) (k : Nat) (rest : List Event) : State :=
  { s with now := s.now + BitVec.ofNat 32 k, script := rest }

theorem ticked_zero (s : State) : s.ticked 0 s.script = s := by simp [State.ticked]

theorem ticked_ticked (s : State) (j k : Nat) (l rest : List Event) :
    (s.ticked j l).ticked k rest = s.ticked (j + k) rest := by
  simp [State.ticked, BitVec.ofNat_add, BitVec.add_assoc]

/-- The engine's condition reads the time and no coming move. -/
theorem engineEnabled_ticked_script (s : State) (k : Nat) (l rest : List Event) :
    engineEnabled (s.ticked k l) = engineEnabled (s.ticked k rest) := rfl

/-- A pending tick is taken when the engine has no step. -/
theorem step_pending_tick {s : State} {rest : List Event} (hr : s.rst = false) (hs : s.script = .tick :: rest)
    (he : engineEnabled s = false) : step s = .next (s.ticked 1 rest) := by
  simp [step, move, nextEvent, popEvent, hs, hr, he, tick, State.ticked]

theorem core_run_succ {s t : State} (h : step s = .next t) (k : Nat) :
    Host.Core.run core (k + 1) s = Host.Core.run core k t := by
  have hc : core.step s = .next t := h
  simp only [Host.Core.run, hc]

/-- While the engine has no step, `k` pending ticks are `k` steps, each of which counts `NOW` and no more. -/
theorem run_pending_ticks (rest : List Event) (k : Nat) {s : State} (hr : s.rst = false)
    (hs : s.script = List.replicate k .tick ++ rest)
    (he : ∀ j < k, engineEnabled (s.ticked j rest) = false) :
    Host.Core.run core k s = .next (s.ticked k rest) := by
  induction k generalizing s with
  | zero =>
    obtain rfl : s.script = rest := hs
    rw [ticked_zero]; rfl
  | succ k ih =>
    have h0 : engineEnabled s = false := by
      rw [← ticked_zero s, engineEnabled_ticked_script s 0 _ rest]; exact he 0 k.succ_pos
    have hrun : Host.Core.run core k (s.ticked 1 (List.replicate k .tick ++ rest))
        = .next ((s.ticked 1 (List.replicate k .tick ++ rest)).ticked k rest) :=
      ih hr rfl fun j hj => by rw [ticked_ticked]; exact he (1 + j) (by omega)
    rw [ticked_ticked, Nat.add_comm] at hrun
    exact (core_run_succ (step_pending_tick hr hs h0) k).trans hrun

/-- Up to 2^32 ms, the time since `NOW` was recorded is the number of ticks since. -/
theorem elapsed_ticked {s : State} {k : Nat} (ht : s.locals.t0 = s.now) (hk : k < 2 ^ 32) (rest : List Event) :
    elapsed (s.ticked k rest) (s.ticked k rest).locals.t0 = k := by
  simp only [elapsed, State.ticked, ht, add_sub_cancel_left, BitVec.toNat_ofNat]
  exact Nat.mod_eq_of_lt hk

/-! ### The waits (R127) -/

/-- The length of the `wait_ms` whose hold point a phase is; `none` where the phase is no such hold point. -/
def Phase.waitMs (c : Config) : Phase → Option Nat
  | .wakeCell | .connectCell => some c.tBit
  | .connectIdle => some c.tIdle
  | .connectW4 => some c.tW4
  | .connectW5 => some c.tW5
  | .sendSpacing => some c.tByte
  | _ => none

/-- At a wait of `n` ms the engine's condition is R127's. -/
theorem holdReady_of_waitMs {s : State} {n : Nat} (h : s.phase.waitMs s.cfg = some n) :
    holdReady s = waited n s := by
  unfold Phase.waitMs at h
  split at h <;> cases h <;> simp only [holdReady, *]

/-- In a run of ticks from the moment a wait of `n` ms is reached, the engine gets its step `n` ticks later. -/
theorem engineEnabled_ticked_of_waitMs {s : State} {n k : Nat} (hb : s.busy = true) (ht : s.locals.t0 = s.now)
    (hw : s.phase.waitMs s.cfg = some n) (hk : k < 2 ^ 32) (rest : List Event) :
    engineEnabled (s.ticked k rest) = decide (n ≤ k) := by
  have hb' : (s.ticked k rest).busy = true := hb
  have hw' : (s.ticked k rest).phase.waitMs (s.ticked k rest).cfg = some n := hw
  rw [engineEnabled, hb', holdReady_of_waitMs hw', waited, elapsed_ticked ht hk, Bool.true_and]

/-- `k ≤ n` pending ticks from the moment a wait of `n` ms is reached are all taken. -/
theorem run_wait {s : State} {n k : Nat} {rest : List Event} (hr : s.rst = false) (hb : s.busy = true)
    (ht : s.locals.t0 = s.now) (hn : n < 2 ^ 32) (hw : s.phase.waitMs s.cfg = some n) (hk : k ≤ n)
    (hs : s.script = List.replicate k .tick ++ rest) :
    Host.Core.run core k s = .next (s.ticked k rest) := by
  refine run_pending_ticks rest k hr hs fun j hj => ?_
  rw [engineEnabled_ticked_of_waitMs hb ht hw (by omega)]
  exact decide_eq_false (by omega)

/-- Settles O18: the five waits are those of `Phase.waitMs`; the ticks by `run_wait`, the engine's condition by
`engineEnabled_ticked_of_waitMs`. -/
theorem waitLastsExactlyItsTicks : Obligations.WaitLastsExactlyItsTicks := by
  refine ⟨fun _ _ => rfl, waited_iff, fun n k s h => if_pos h, fun s n k rest hr hb ht hn hp hk hs => ?_⟩
  have hw : s.phase.waitMs s.cfg = some n := by
    rcases hp with ⟨hp | hp, rfl⟩ | ⟨hp, rfl⟩ | ⟨hp, rfl⟩ | ⟨hp, rfl⟩ | ⟨hp, rfl⟩ <;> rw [hp] <;> rfl
  refine ⟨run_wait hr hb ht hn hw hk hs, ?_⟩
  have he := engineEnabled_ticked_of_waitMs hb ht hw (Nat.lt_of_le_of_lt hk hn) rest
  exact he.trans (decide_eq_decide.2 ⟨fun h => Nat.le_antisymm hk h, fun h => h.ge⟩)

end Sys2Proof.Machine

/-! ## The Bit-Bang Initiator: WAKEUP (41_bitbang.md) -/

namespace Sys2Proof.Machine

/-! ### The ten cells (R98, R152) -/

theorem wakeLevel_zero (c : Config) : wakeLevel c 0 = false := rfl

/-- Cell `k + 1` is bit `k` of `ADDR_BYTE`, the low bit first. -/
theorem wakeLevel_succ (c : Config) {k : Nat} (hk : k < 8) : wakeLevel c (k + 1) = c.addrByte.getLsbD k :=
  match k, hk with
  | 0, _ | 1, _ | 2, _ | 3, _ | 4, _ | 5, _ | 6, _ | 7, _ => rfl

theorem wakeLevel_nine (c : Config) : wakeLevel c 9 = true := rfl

/-! ### A cell and its time (R127, R152) -/

theorem onWait_of_le {n : Nat} {s : State} (h : n ≤ elapsed s s.locals.t0) (k : State → State) :
    onWait n k s = k s :=
  if_pos ((waited_iff n s).2 h)

theorem onWait_of_lt {n : Nat} {s : State} (h : elapsed s s.locals.t0 < n) (k : State → State) :
    onWait n k s = s :=
  if_neg (mt (waited_iff n s).1 (Nat.not_le.2 h))

theorem wakeNext_of_lt (p : Phase) (done : State → State) {s : State} (h : s.locals.idx < 9) :
    wakeNext p done s = hold p (drive (wakeLevel s.cfg (s.locals.idx + 1)) (setIdx (s.locals.idx + 1) s)) :=
  if_pos h

theorem wakeNext_of_le (p : Phase) (done : State → State) {s : State} (h : 9 ≤ s.locals.idx) :
    wakeNext p done s = done s :=
  if_neg (Nat.not_lt.2 h)

/-- A hold point that follows itself records the time anew and keeps the phase. -/
theorem hold_of_phase {p : Phase} {s : State} (h : s.phase = p) :
    hold p s = { s with locals := { s.locals with t0 := s.now } } := by
  subst h; rfl

/-! ### WAKEUP's segments (R150) -/

theorem execWakeup_of_start {s : State} (h : s.phase = .start) : execWakeup s = .next (wakeupStart s) := by
  rw [execWakeup, h]

theorem execWakeup_of_wakeCell {s : State} (h : s.phase = .wakeCell) :
    execWakeup s = .next (onWait s.cfg.tBit (wakeNext .wakeCell finish) s) := by
  rw [execWakeup, h]

theorem wakeupStart_of_allowed {s : State} (h : s.session = .disconnected ∨ s.session = .faulted) :
    wakeupStart s = wakeBegin .wakeCell (enterGpio s) :=
  if_pos h

/-- Settles O24: the cells by `wakeLevel`'s equations; the segments by WAKEUP's at its start and at a cell, where
`onWait` holds or goes on to `wakeNext`'s next cell or end. -/
theorem wakeupDrivesTenCellsThenEnds : Obligations.WakeupDrivesTenCellsThenEnds := by
  intro s
  refine ⟨⟨wakeLevel_zero s.cfg, fun _ => wakeLevel_succ s.cfg, wakeLevel_nine s.cfg⟩, fun hp ht => ?_,
    fun hp hs => ?_, fun hp ht hi => ?_, fun hp ht hi => ?_⟩
  · exact (execWakeup_of_wakeCell hp).trans (by rw [onWait_of_lt ht])
  · exact (execWakeup_of_start hp).trans (by rw [wakeupStart_of_allowed hs]; rfl)
  · refine (execWakeup_of_wakeCell hp).trans ?_
    rw [onWait_of_le ht, wakeNext_of_lt _ _ hi, hold_of_phase]
    · rfl
    · exact hp
  · exact (execWakeup_of_wakeCell hp).trans (by rw [onWait_of_le ht, wakeNext_of_le _ _ hi.ge]; rfl)

end Sys2Proof.Machine

/-! ## The Byte Transceiver: TRANSMIT, delivery, the two flags and the line's mode (42_transceiver.md) -/

namespace Sys2Proof.Machine

/-! ### TRANSMIT (R161) -/

/-- R129: with the transmit buffer full, `uart_tx` holds. -/
theorem onTx_of_full {s : State} (h : s.txFull = true) (b : Byte) (k : State → State) : onTx b k s = s :=
  if_pos h

/-- R129: with the transmit buffer empty, `uart_tx` fills it and goes on. -/
theorem onTx_of_empty {s : State} (h : s.txFull = false) (b : Byte) (k : State → State) :
    onTx b k s = k { s with txReg := b, txFull := true } :=
  if_neg (by simp [h])

theorem execTransmit_of_start {s : State} (h : s.phase = .start) :
    execTransmit s = .next (transmitStart s) := by
  rw [execTransmit, h]

theorem execTransmit_of_transmitTx {s : State} (h : s.phase = .transmitTx) :
    execTransmit s = .next (onTx s.txData finish s) := by
  rw [execTransmit, h]

/-- Settles O26: the first segment by R133's precondition, the second by `onTx` at a full and at an empty buffer. -/
theorem transmitBuffersItsByte : Obligations.TransmitBuffersItsByte := by
  refine ⟨rfl, fun s => ⟨fun hp hl => ?_, fun hp hl => ?_, fun hp hf => ?_, fun hp hf => ?_⟩⟩
  · exact (execTransmit_of_start hp).trans (by rw [transmitStart, if_pos hl]; rfl)
  · exact (execTransmit_of_start hp).trans (by rw [transmitStart, if_neg hl]; rfl)
  · exact (execTransmit_of_transmitTx hp).trans (by rw [onTx_of_full hf])
  · exact (execTransmit_of_transmitTx hp).trans (by rw [onTx_of_empty hf]; rfl)

/-! ### Delivery (R166, R167) -/

theorem deliver_of_gpio (x : Byte) {s : State} (h : s.lineMode = .gpio) : deliver x s = s := by
  rw [deliver, h]

theorem deliver_of_empty (x : Byte) {s : State} (h : s.lineMode = .uart) (hf : s.rxFull = false) :
    deliver x s = { s with rxReg := x, rxFull := true } := by
  simp [deliver, h, hf]

theorem deliver_of_full (x : Byte) {s : State} (h : s.lineMode = .uart) (hf : s.rxFull = true) :
    deliver x s = overrun x s := by
  simp [deliver, h, hf]

theorem overrun_of_dropNew (x : Byte) {s : State} (h : s.cfg.overrunPolicy = .dropNew) :
    overrun x s = { s with rxOverrun := true } := by
  rw [overrun, h]

theorem overrun_of_dropOld (x : Byte) {s : State} (h : s.cfg.overrunPolicy = .dropOld) :
    overrun x s = { s with rxOverrun := true, rxReg := x } := by
  rw [overrun, h]

theorem step_deliver {s : State} {x : Byte} (hr : s.rst = false) (he : nextEvent s = .deliver x) :
    step s = .next (deliver x (popEvent s)) := by
  simp [step, move, he, hr]

/-- Settles O29: the step is `deliver` by `step_deliver`; its cases by the mode, the flag and the policy. -/
theorem lineDeliveryAndOverrun : Obligations.LineDeliveryAndOverrun := by
  intro s x hr he
  rw [step_deliver hr he]
  refine ⟨fun hl => ?_, fun hl hf => ?_, fun hl hf hc => ?_, fun hl hf hc => ?_⟩
  · rw [deliver_of_gpio x (by simpa using hl)]
  · rw [deliver_of_empty x (by simpa using hl) (by simpa using hf)]
  · rw [deliver_of_full x (by simpa using hl) (by simpa using hf), overrun_of_dropNew x (by simpa using hc)]
  · rw [deliver_of_full x (by simpa using hl) (by simpa using hf), overrun_of_dropOld x (by simpa using hc)]

/-! ### What a segment does to the line's mode and the two flags -/

/-- `STATUS.LINE_MODE`, `TX_FULL` and `RX_FULL` (R25). -/
structure LineFlags where
  mode : LineMode
  txFull : Bool
  rxFull : Bool

def State.lineFlags (s : State) : LineFlags := ⟨s.lineMode, s.txFull, s.rxFull⟩

@[simp] theorem lineFlags_mode (s : State) : s.lineFlags.mode = s.lineMode := rfl
@[simp] theorem lineFlags_txFull (s : State) : s.lineFlags.txFull = s.txFull := rfl
@[simp] theorem lineFlags_rxFull (s : State) : s.lineFlags.rxFull = s.rxFull := rfl

theorem lineFlags_eq_iff (s : State) (f : LineFlags) :
    s.lineFlags = f ↔ s.lineMode = f.mode ∧ s.txFull = f.txFull ∧ s.rxFull = f.rxFull := by
  cases f; simp [State.lineFlags]

@[simp] theorem lineFlags_popEvent (s : State) : (popEvent s).lineFlags = s.lineFlags :=
  (congrArg State.lineFlags (popEvent_eq s)).trans rfl

/-- The hold points that are a `uart_tx()` (R129). -/
def Phase.isTx (p : Phase) : Bool := p == .transmitTx || p == .connectTx || p == .sendTx

/-- What one segment of the command `i`, run from the phase `p`, makes of the flags `f`. After a `uart_tx` the
transmit buffer is full and after a `uart_rx` the receive buffer is empty, whether or not the engine held. -/
inductive LineEffect (i : Instr) (p : Phase) (f : LineFlags) : LineFlags → Prop
  /-- any other segment -/
  | keeps : LineEffect i p f f
  /-- `enter_gpio_mode` in the first segment of WAKEUP or CONNECT (R150, R182) -/
  | entersGpio (hp : p = .start) (hi : i = .wakeup ∨ i = .connect) :
      LineEffect i p f { f with mode := .gpio, txFull := false }
  /-- `enter_uart_mode` after CONNECT's last cell (R182) -/
  | entersUart (hp : p = .connectCell) : LineEffect i p f { f with mode := .uart, rxFull := false }
  /-- `uart_tx` (R129) -/
  | afterTx (hp : p.isTx = true) : LineEffect i p f { f with txFull := true }
  /-- `uart_rx` (R130) -/
  | afterRx (hp : p.isRx = true) : LineEffect i p f { f with rxFull := false }
  /-- RECEIVE's first segment takes the byte that was there at acceptance (R162) -/
  | receivesAtStart (hp : p = .start) (hi : i = .receive) (hm : f.mode = .uart) :
      LineEffect i p f { f with rxFull := false }

theorem execWakeup_lineEffect {s t : State} (h : execWakeup s = .next t) (hi : s.phase ≠ .idle) :
    LineEffect .wakeup s.phase s.lineFlags t.lineFlags := by
  rcases execWakeup_cases h with ⟨hp, h⟩ | ⟨_, _, h⟩ | ⟨_, _, rfl⟩
  · rcases h with ⟨_, rfl⟩ | ⟨_, _, rfl⟩
    exacts [.entersGpio (hp.resolve_left hi) (.inl rfl), .keeps]
  · rcases h with ⟨_, rfl⟩ | ⟨_, rfl⟩ <;> exact .keeps
  · exact .keeps

theorem execTransmit_lineEffect {s t : State} (h : execTransmit s = .next t) :
    LineEffect .transmit s.phase s.lineFlags t.lineFlags := by
  rcases execTransmit_cases h with ⟨_, h⟩ | ⟨hp, _, rfl⟩ | ⟨_, _, rfl⟩
  · rcases h with ⟨_, rfl⟩ | ⟨_, rfl⟩ <;> exact .keeps
  · rw [hp]; exact .afterTx rfl
  · exact .keeps

theorem execReceive_lineEffect {s t : State} (h : execReceive s = .next t) (hi : s.phase ≠ .idle) :
    LineEffect .receive s.phase s.lineFlags t.lineFlags := by
  rcases execReceive_cases h with ⟨hp, h⟩ | ⟨hp, _, rfl⟩ | ⟨_, _, _, rfl⟩ | ⟨_, _, _, rfl⟩
  · rcases h with ⟨hl, _, _, rfl⟩ | ⟨_, _, rfl⟩ | ⟨_, rfl⟩
    exacts [.receivesAtStart (hp.resolve_left hi) rfl hl, .keeps, .keeps]
  · rw [hp]; exact .afterRx rfl
  · exact .keeps
  · exact .keeps

theorem execConnect_lineEffect {s t : State} (h : execConnect s = .next t) (hi : s.phase ≠ .idle) :
    LineEffect .connect s.phase s.lineFlags t.lineFlags := by
  rcases execConnect_cases h with ⟨hp, h⟩ | ⟨_, h⟩ | ⟨hp, h⟩ | ⟨hp, h⟩ | ⟨hp, h⟩ | ⟨hp, h⟩ | ⟨_, h⟩ | ⟨hp, h⟩
    | ⟨hp, h⟩ | ⟨_, h⟩ | ⟨hp, h⟩
  -- the first segment
  · rcases h with ⟨_, rfl⟩ | ⟨_, rfl⟩
    exacts [.entersGpio (hp.resolve_left hi) (.inr rfl), .keeps]
  -- the idle wait; the cells, of which the last ends in UART mode
  · rcases h with ⟨_, rfl⟩ | ⟨_, rfl⟩ <;> exact .keeps
  · rcases h with ⟨_, ⟨_, rfl⟩ | ⟨_, rfl⟩⟩ | ⟨_, rfl⟩
    exacts [.keeps, .entersUart hp, .keeps]
  -- the sync byte and the two key bytes
  · rw [hp]; rcases h with ⟨_, _, rfl⟩ | ⟨_, _, rfl⟩ | ⟨_, _, rfl⟩ | ⟨_, _, rfl⟩
    exacts [.afterRx rfl, .afterRx rfl, .keeps, .keeps]
  · rw [hp]; rcases h with ⟨_, rfl⟩ | ⟨_, _, rfl⟩ | ⟨_, _, rfl⟩
    exacts [.afterRx rfl, .keeps, .keeps]
  · rw [hp]; rcases h with ⟨_, rfl⟩ | ⟨_, _, rfl⟩ | ⟨_, _, rfl⟩
    exacts [.afterRx rfl, .keeps, .keeps]
  -- the wait before `~k2`, its transmission and its echo
  · rcases h with ⟨_, rfl⟩ | ⟨_, rfl⟩ <;> exact .keeps
  · rw [hp]; rcases h with ⟨_, _, rfl⟩ | ⟨_, _, rfl⟩ | ⟨_, rfl⟩
    exacts [.afterTx rfl, .afterTx rfl, .keeps]
  · rw [hp]; rcases h with ⟨_, _, rfl⟩ | ⟨_, _, rfl⟩ | ⟨_, _, rfl⟩ | ⟨_, _, rfl⟩
    exacts [.afterRx rfl, .afterRx rfl, .keeps, .keeps]
  -- the wait before the final byte, and that byte
  · rcases h with ⟨_, rfl⟩ | ⟨_, rfl⟩ <;> exact .keeps
  · rw [hp]; rcases h with ⟨_, _, rfl⟩ | ⟨_, _, rfl⟩ | ⟨_, _, rfl⟩ | ⟨_, _, rfl⟩
    exacts [.afterRx rfl, .afterRx rfl, .keeps, .keeps]

theorem execSendCmd_lineEffect {s t : State} (h : execSendCmd s = .next t) :
    LineEffect .sendCmd s.phase s.lineFlags t.lineFlags := by
  rcases execSendCmd_cases h with ⟨_, h⟩ | ⟨_, h⟩ | ⟨_, h⟩ | ⟨hp, h⟩ | ⟨hp, h⟩ | ⟨hp, h⟩
  -- the first segment, the gap and the spacing
  · rcases h with ⟨_, rfl⟩ | ⟨_, _, rfl⟩ | ⟨_, _, rfl⟩ <;> exact .keeps
  · rcases h with ⟨_, _, rfl⟩ | ⟨_, _, rfl⟩ | ⟨_, rfl⟩ <;> exact .keeps
  · rcases h with ⟨_, rfl⟩ | ⟨_, rfl⟩ <;> exact .keeps
  -- a request byte and its echo
  · rw [hp]; rcases h with ⟨_, rfl⟩ | ⟨_, rfl⟩
    exacts [.afterTx rfl, .keeps]
  · rw [hp]; rcases h with ⟨_, _, _, rfl⟩ | ⟨_, _, _, rfl⟩ | ⟨_, _, rfl⟩ | ⟨_, _, rfl⟩ | ⟨_, _, rfl⟩
    exacts [.afterRx rfl, .afterRx rfl, .afterRx rfl, .keeps, .keeps]
  -- a response byte
  · rw [hp]; rcases h with ⟨_, _, _, _, rfl⟩ | ⟨_, _, _, rfl⟩ | ⟨_, _, _, _, rfl⟩ | ⟨_, _, _, rfl⟩
      | ⟨_, _, rfl⟩ | ⟨_, _, rfl⟩
    exacts [.afterRx rfl, .afterRx rfl, .afterRx rfl, .afterRx rfl, .keeps, .keeps]

theorem exec_lineEffect {i : Instr} {s t : State} (h : exec i s = .next t) (hi : s.phase ≠ .idle) :
    LineEffect i s.phase s.lineFlags t.lineFlags := by
  cases i with
  | nop => cases h; exact .keeps
  | wakeup => exact execWakeup_lineEffect h hi
  | transmit => exact execTransmit_lineEffect h
  | receive => exact execReceive_lineEffect h hi
  | connect => exact execConnect_lineEffect h hi
  | sendCmd => exact execSendCmd_lineEffect h
  | disconnect => cases h; exact .keeps

namespace LineEffect

variable {i : Instr} {p : Phase} {f g : LineFlags}

/-- R160: who uses the two operations that change the mode. -/
theorem mode_changes (h : LineEffect i p f g) (hne : g.mode ≠ f.mode) :
    (p = .start ∧ g.mode = .gpio ∧ (i = .wakeup ∨ i = .connect)) ∨ (p = .connectCell ∧ g.mode = .uart) := by
  cases h with
  | entersGpio hp hi => exact .inl ⟨hp, rfl, hi⟩
  | entersUart hp => exact .inr ⟨hp, rfl⟩
  | keeps | afterTx | afterRx | receivesAtStart => exact absurd rfl hne

theorem txFull_rises (h : LineEffect i p f g) (h₀ : f.txFull = false) (h₁ : g.txFull = true) :
    p.isTx = true := by
  cases h with
  | afterTx hp => exact hp
  | entersGpio => exact absurd h₁ Bool.false_ne_true
  | keeps | entersUart | afterRx | receivesAtStart => exact absurd (h₀.symm.trans h₁) Bool.false_ne_true

theorem txFull_falls (h : LineEffect i p f g) (h₁ : f.txFull = true) (h₀ : g.txFull = false) :
    p = .start ∧ g.mode = .gpio := by
  cases h with
  | entersGpio hp => exact ⟨hp, rfl⟩
  | afterTx => exact absurd h₀.symm Bool.false_ne_true
  | keeps | entersUart | afterRx | receivesAtStart => exact absurd (h₀.symm.trans h₁) Bool.false_ne_true

/-- R164: no segment fills the receive buffer. -/
theorem rxFull_stays_empty (h : LineEffect i p f g) (h₀ : f.rxFull = false) : g.rxFull = false := by
  cases h with
  | entersUart | afterRx | receivesAtStart => rfl
  | keeps | entersGpio | afterTx => exact h₀

theorem rxFull_falls (h : LineEffect i p f g) (h₁ : f.rxFull = true) (h₀ : g.rxFull = false) :
    (p = .connectCell ∧ g.mode = .uart) ∨ p.isRx = true ∨ (p = .start ∧ i = .receive ∧ f.mode = .uart) := by
  cases h with
  | entersUart hp => exact .inl ⟨hp, rfl⟩
  | afterRx hp => exact .inr (.inl hp)
  | receivesAtStart hp hi hm => exact .inr (.inr ⟨hp, hi, hm⟩)
  | keeps | entersGpio | afterTx => exact absurd (h₀.symm.trans h₁) Bool.false_ne_true

end LineEffect

/-! ### What a step does to them -/

/-- An illegal word's segment keeps the flags. -/
theorem engineStep_lineFlags {s t : State} (h : engineStep s = .next t) (hi : s.phase ≠ .idle) :
    t.lineFlags = s.lineFlags
      ∨ ∃ i, decode s.cmd = .command i ∧ LineEffect i s.phase s.lineFlags t.lineFlags := by
  rcases engineStep_cases h with ⟨i, hd, h⟩ | ⟨_, _, rfl⟩
  · exact .inr ⟨i, hd, exec_lineEffect h hi⟩
  · exact .inl rfl

theorem serialize_lineFlags (s : State) :
    (serialize s).lineFlags = s.lineFlags ∨ (serialize s).lineFlags = { s.lineFlags with txFull := false } := by
  unfold serialize
  split
  · exact .inr rfl
  · exact .inl rfl

theorem deliver_lineFlags (x : Byte) (s : State) :
    (deliver x s).lineFlags = s.lineFlags
      ∨ ((deliver x s).rxReg = x ∧ (deliver x s).lineFlags = { s.lineFlags with rxFull := true }) := by
  unfold deliver overrun
  split
  · exact .inl rfl
  · split
    · split <;> exact .inl rfl
    · exact .inr ⟨rfl, rfl⟩

theorem moveInReset_lineFlags (e : Event) (s : State) : (moveInReset e s).lineFlags = s.lineFlags :=
  (congrArg State.lineFlags (moveInReset_eq e s)).trans rfl

theorem writeReg_lineFlags (r : Reg) (v : Word) (s : State) : (writeReg r v s).lineFlags = s.lineFlags := by
  rcases writeReg_cases r v s with ⟨_, e⟩ | ⟨_, _, e⟩ | ⟨_, _, e⟩ | ⟨_, _, e⟩ | ⟨_, _, e⟩ | ⟨_, e⟩
    <;> rw [e] <;> rfl

/-- Only these steps change the line's mode or one of the two flags: an engine step as `LineEffect` says, the
Serializer's, a delivery and the assertion of `rst`. -/
theorem step_lineFlags {s t : State} (hinv : Inv s) (h : step s = .next t) :
    t.lineFlags = s.lineFlags
      ∨ (engineMoves s = true
        ∧ ∃ i, decode s.cmd = .command i ∧ LineEffect i s.phase s.lineFlags t.lineFlags)
      ∨ (s.rst = false ∧ nextEvent s = .serialize ∧ t.lineFlags = { s.lineFlags with txFull := false })
      ∨ (s.rst = false ∧ ∃ x, nextEvent s = .deliver x ∧ t.rxReg = x
        ∧ t.lineFlags = { s.lineFlags with rxFull := true })
      ∨ (nextEvent s = .rstAssert ∧ t.lineFlags = ⟨.gpio, false, false⟩) := by
  have running : engineMoves s = true → s.phase ≠ .idle := fun hm => by
    obtain ⟨_, he, _⟩ := (engineMoves_iff s).1 hm
    exact hinv.busy_iff.1 ((engineEnabled_iff s).1 he).1
  rcases step_cases h with ⟨_, rfl⟩ | ⟨hm, _, h⟩ | ⟨hm, _, h⟩ | ⟨_, _, _, rfl⟩ | ⟨_, _, _, rfl⟩ | ⟨hr, he, rfl⟩
    | ⟨hr, x, he, rfl⟩ | ⟨_, a, _, _, rfl⟩ | ⟨_, a, v, _, _, rfl⟩ | ⟨_, he, rfl⟩ | ⟨_, _, rfl⟩
  -- a move under `rst`
  · exact .inl ((moveInReset_lineFlags _ _).trans (lineFlags_popEvent s))
  -- the engine runs a segment, at its own move or before a waiting tick
  · have hs := engineStep_lineFlags h (by simpa using running hm)
    rw [popEvent_cmd, popEvent_phase, lineFlags_popEvent] at hs
    exact hs.imp_right fun hs => .inl ⟨hm, hs⟩
  · exact (engineStep_lineFlags h (running hm)).imp_right fun hs => .inl ⟨hm, hs⟩
  -- the engine has no step; a tick
  · exact .inl (lineFlags_popEvent s)
  · exact .inl (lineFlags_popEvent s)
  -- the Serializer; a delivery
  · have hs := serialize_lineFlags (popEvent s)
    rw [lineFlags_popEvent] at hs
    exact hs.imp_right fun hs => .inr (.inl ⟨hr, he, hs⟩)
  · have hs := deliver_lineFlags x (popEvent s)
    rw [lineFlags_popEvent] at hs
    exact hs.imp_right fun ⟨hx, hs⟩ => .inr (.inr (.inl ⟨hr, x, he, hx, hs⟩))
  -- a host access
  · exact .inl (lineFlags_popEvent s)
  · exact .inl ((writeReg_lineFlags _ v _).trans (lineFlags_popEvent s))
  -- `rst` is asserted or released
  · exact .inr (.inr (.inr (.inr ⟨he, rfl⟩)))
  · exact .inl (lineFlags_popEvent s)

/-! ### The line's mode (R160) -/

/-- Settles O31: of the steps of `step_lineFlags`, only two segments and the assertion of `rst` change the mode. -/
theorem lineModeChangesOnlyAsStated : Obligations.LineModeChangesOnlyAsStated := by
  refine ⟨fun s => ⟨rfl, rfl⟩, fun s t hinv h hne => ?_⟩
  rcases step_lineFlags hinv h with e | ⟨hm, i, hd, he⟩ | ⟨_, _, e⟩ | ⟨_, x, _, _, e⟩ | ⟨hn, e⟩
  · exact absurd (congrArg LineFlags.mode e) hne
  · rcases he.mode_changes hne with ⟨hp, hg, hi⟩ | ⟨hp, hu⟩
    · exact .inl ⟨hm, hp, hg, by simpa [hd] using hi⟩
    · exact .inr (.inl ⟨hm, hp, hu⟩)
  · exact absurd (congrArg LineFlags.mode e) hne
  · exact absurd (congrArg LineFlags.mode e) hne
  · exact .inr (.inr ⟨hn, congrArg LineFlags.mode e⟩)

/-! ### The two buffers (R163, R164) -/

theorem isTx_iff (p : Phase) : p.isTx = true ↔ p = .transmitTx ∨ p = .connectTx ∨ p = .sendTx := by
  simp [Phase.isTx, or_assoc]

theorem isRx_iff (p : Phase) : p.isRx = true
    ↔ p = .receiveRx ∨ p = .connectSync ∨ p = .connectKey1 ∨ p = .connectKey2 ∨ p = .connectEcho
      ∨ p = .connectAck ∨ p = .sendEcho ∨ p = .sendResp := by
  simp [Phase.isRx, or_assoc]

/-- R133, R182: a command waits for a byte only in UART mode. -/
theorem Inv.uart_of_isRx {s : State} (hinv : Inv s) (h : s.phase.isRx = true) : s.lineMode = .uart := by
  have hrx : ∀ p : Phase, p.isRx = true → p.owner ≠ none ∧ p.inGpio = false := by
    intro p; cases p <;> decide
  obtain ⟨howner, hgpio⟩ := hrx s.phase h
  exact hinv.uart_phases howner hgpio

/-- R164: what empties the receive buffer in an engine step. -/
theorem LineEffect.rxFull_falls_of_inv {s t : State} {i : Instr} (hinv : Inv s) (hd : decode s.cmd = .command i)
    (he : LineEffect i s.phase s.lineFlags t.lineFlags) (h₁ : s.rxFull = true) (h₀ : t.rxFull = false) :
    (s.phase = .connectCell ∧ t.lineMode = .uart)
      ∨ (s.lineMode = .uart
        ∧ (s.phase.isRx = true ∨ (s.phase = .start ∧ decode s.cmd = .command .receive))) := by
  rcases he.rxFull_falls h₁ h₀ with hu | hp | ⟨hp, rfl, hm⟩
  · exact .inl hu
  · exact .inr ⟨hinv.uart_of_isRx hp, .inl hp⟩
  · exact .inr ⟨hm, .inr ⟨hp, hd⟩⟩

/-- Settles O30: each flag over the steps of `step_lineFlags`; an engine step by `LineEffect`. -/
theorem buffersFillAndEmptyOnlyAsStated : Obligations.BuffersFillAndEmptyOnlyAsStated := by
  intro s t hinv hn h
  rcases step_lineFlags hinv h with e | ⟨hm, i, hd, he⟩ | ⟨hr, hs, e⟩ | ⟨hr, x, hx, hreg, e⟩ | ⟨ha, _⟩
  -- the flags are kept: none rises and none falls
  · obtain ⟨_, htx, hrx⟩ := (lineFlags_eq_iff t _).1 e
    simp_all
  -- an engine step
  · refine ⟨fun h₀ h₁ => ⟨hm, (isTx_iff _).1 (he.txFull_rises h₀ h₁)⟩,
      fun h₁ h₀ => .inr ⟨hm, he.txFull_falls h₁ h₀⟩,
      fun h₀ h₁ => absurd ((he.rxFull_stays_empty h₀).symm.trans h₁) Bool.false_ne_true,
      fun h₁ h₀ => ⟨hm, (he.rxFull_falls_of_inv hinv hd h₁ h₀).imp_right fun ⟨hu, hp⟩ => ⟨hu, ?_⟩⟩⟩
    rw [isRx_iff, or_assoc] at hp
    exact hp.imp_right Or.symm
  -- the Serializer empties the one buffer, a delivery fills the other
  · obtain ⟨_, htx, hrx⟩ := (lineFlags_eq_iff t _).1 e
    simp_all
  · obtain ⟨_, htx, hrx⟩ := (lineFlags_eq_iff t _).1 e
    simp_all
  -- the assertion of `rst` is set aside
  · exact absurd ha hn

end Sys2Proof.Machine

/-! ## The Session State Machine: CONNECT, DISCONNECT and the keep-alive ceiling (43_session.md) -/

namespace Sys2Proof.Machine

/-! ### DISCONNECT (R192) -/

/-- Settles O22: DISCONNECT has one segment, the same from any state; a write while busy is lost by
`writeReg_of_busy`. -/
theorem disconnectReturnsToDisconnected : Obligations.DisconnectReturnsToDisconnected :=
  ⟨rfl, fun _ => ⟨rfl, writeReg_of_busy .cmd 0x00000006⟩⟩

/-! ### The keep-alive ceiling in SEND_CMD (R190) -/

theorem kaExpired_iff (s : State) :
    kaExpired s = true ↔ s.session = .ready ∧ s.cfg.tKa < elapsed s s.lastOk := by
  simp [kaExpired]

theorem execSendCmd_of_sendGap {s : State} (h : s.phase = .sendGap) :
    execSendCmd s = .next (onGap sendAfterGap s) := by
  rw [execSendCmd, h]

theorem onGap_of_passed {s : State} (h : gapPassed s = true) (k : State → State) : onGap k s = k s :=
  if_pos h

theorem sendAfterGap_of_expired {s : State} (h : kaExpired s = true) :
    sendAfterGap s = endCmd .sessionExpired 0x00 0x00 { s with session := .faulted } :=
  if_pos h

theorem sendAfterGap_of_alive {s : State} (h : kaExpired s = false) :
    sendAfterGap s = hold .sendTx
      { s with locals := { s.locals with frame := requestFrame s.cfg (pidBytes s.pidBuf s.n), idx := 0 } } :=
  if_neg (by simp [h])

/-- Settles O41: the ceiling by `kaExpired_iff`; the segment after the gap is `sendAfterGap`, above and below it. -/
theorem sendCmdReportsSessionExpired : Obligations.SendCmdReportsSessionExpired := by
  refine ⟨kaExpired_iff, fun s hp hg => ?_⟩
  have hseg : exec .sendCmd s = .next (sendAfterGap s) :=
    (execSendCmd_of_sendGap hp).trans (by rw [onGap_of_passed ((gapPassed_iff s).2 hg)])
  refine ⟨fun hk => ?_, fun hk => ⟨sendAfterGap s, hseg, ?_⟩⟩
  · rw [hseg, sendAfterGap_of_expired hk]; rfl
  · simp [sendAfterGap_of_alive hk]

/-- R195: a segment of SEND_CMD keeps the session, but for the one that finds the ceiling passed. -/
theorem execSendCmd_session {s t : State} (h : execSendCmd s = .next t) :
    t.session = s.session
      ∨ (s.phase = .sendGap ∧ kaExpired s = true
        ∧ t = endCmd .sessionExpired 0x00 0x00 { s with session := .faulted }) := by
  rcases execSendCmd_cases h with ⟨_, h⟩ | ⟨hp, h⟩ | ⟨_, h⟩ | ⟨_, h⟩ | ⟨_, h⟩ | ⟨_, h⟩
  -- the first segment
  · rcases h with ⟨_, rfl⟩ | ⟨_, _, rfl⟩ | ⟨_, _, rfl⟩ <;> exact .inl rfl
  -- the gap, where the ceiling is checked
  · rcases h with ⟨_, hk, rfl⟩ | ⟨_, _, rfl⟩ | ⟨_, rfl⟩
    exacts [.inr ⟨hp, hk, rfl⟩, .inl rfl, .inl rfl]
  -- the spacing, a request byte and its echo
  · rcases h with ⟨_, rfl⟩ | ⟨_, rfl⟩ <;> exact .inl rfl
  · rcases h with ⟨_, rfl⟩ | ⟨_, rfl⟩ <;> exact .inl rfl
  · rcases h with ⟨_, _, _, rfl⟩ | ⟨_, _, _, rfl⟩ | ⟨_, _, rfl⟩ | ⟨_, _, rfl⟩ | ⟨_, _, rfl⟩ <;> exact .inl rfl
  -- a response byte
  · rcases h with ⟨_, _, _, _, rfl⟩ | ⟨_, _, _, rfl⟩ | ⟨_, _, _, _, rfl⟩ | ⟨_, _, _, rfl⟩ | ⟨_, _, rfl⟩
      | ⟨_, _, rfl⟩ <;> exact .inl rfl

/-- Settles O58: by `execSendCmd_session`, the only segment that changes the session ends with `SessionExpired`. -/
theorem codecErrorsLeaveTheSession : Obligations.CodecErrorsLeaveTheSession := by
  intro s t _ h _ he
  rcases execSendCmd_session h with hs | ⟨_, _, rfl⟩
  · exact hs
  · exact absurd (endCmd_errKind ..) he

/-! ### How a segment of CONNECT comes out (R182) -/

/-- What the host reads of a command's progress: `BUSY`, `SESSION` and `ERROR.CODE` (R25, R34). -/
structure Report where
  busy : Bool
  session : Session
  err : ErrorKind

def State.report (s : State) : Report := ⟨s.busy, s.session, s.errKind⟩

/-- What one segment of CONNECT, run from the phase `p`, makes of the report `f`. -/
inductive ConnectOutcome (p : Phase) (f : Report) : Report → Prop
  /-- the first segment, with its precondition met -/
  | starts (hp : p = .idle ∨ p = .start) (hs : f.session = .disconnected) :
      ConnectOutcome p f { f with session := .initializing }
  /-- the first segment, with its precondition not met (R133) -/
  | refused (hp : p = .idle ∨ p = .start) (hs : f.session ≠ .disconnected) :
      ConnectOutcome p f { f with busy := false, err := .stateError }
  /-- the engine holds, or goes on to the next hold point -/
  | goesOn (hp : p.owner = some .connect) : ConnectOutcome p f f
  /-- step 7 -/
  | succeeds (hp : p = .connectAck) : ConnectOutcome p f ⟨false, .ready, .none⟩
  /-- `hs_fail` for an unexpected byte -/
  | mismatch (hp : p = .connectSync ∨ p = .connectEcho ∨ p = .connectAck) :
      ConnectOutcome p f ⟨false, .faulted, .handshakeFailure⟩
  /-- `hs_fail` for a byte that did not come -/
  | timesOut (hp : p = .connectSync ∨ p = .connectKey1 ∨ p = .connectKey2 ∨ p = .connectEcho ∨ p = .connectAck) :
      ConnectOutcome p f ⟨false, .faulted, .timeout⟩

theorem execConnect_outcome {s t : State} (h : execConnect s = .next t) :
    ConnectOutcome s.phase s.report t.report := by
  rcases execConnect_cases h with ⟨hp, h⟩ | ⟨hp, h⟩ | ⟨hp, h⟩ | ⟨hp, h⟩ | ⟨hp, h⟩ | ⟨hp, h⟩ | ⟨hp, h⟩ | ⟨hp, h⟩
    | ⟨hp, h⟩ | ⟨hp, h⟩ | ⟨hp, h⟩
  -- the first segment
  · rcases h with ⟨hs, rfl⟩ | ⟨hs, rfl⟩
    exacts [.starts hp hs, .refused hp hs]
  -- the idle wait and the cells
  · rw [hp]; rcases h with ⟨_, rfl⟩ | ⟨_, rfl⟩ <;> exact .goesOn rfl
  · rw [hp]; rcases h with ⟨_, ⟨_, rfl⟩ | ⟨_, rfl⟩⟩ | ⟨_, rfl⟩ <;> exact .goesOn rfl
  -- the sync byte, which is checked, and the two key bytes, which are not
  · rw [hp]; rcases h with ⟨_, _, rfl⟩ | ⟨_, _, rfl⟩ | ⟨_, _, rfl⟩ | ⟨_, _, rfl⟩
    exacts [.goesOn rfl, .mismatch (by simp), .timesOut (by simp), .goesOn rfl]
  · rw [hp]; rcases h with ⟨_, rfl⟩ | ⟨_, _, rfl⟩ | ⟨_, _, rfl⟩
    exacts [.goesOn rfl, .timesOut (by simp), .goesOn rfl]
  · rw [hp]; rcases h with ⟨_, rfl⟩ | ⟨_, _, rfl⟩ | ⟨_, _, rfl⟩
    exacts [.goesOn rfl, .timesOut (by simp), .goesOn rfl]
  -- the wait before `~k2`, its transmission and its echo
  · rw [hp]; rcases h with ⟨_, rfl⟩ | ⟨_, rfl⟩ <;> exact .goesOn rfl
  · rw [hp]; rcases h with ⟨_, _, rfl⟩ | ⟨_, _, rfl⟩ | ⟨_, rfl⟩ <;> exact .goesOn rfl
  · rw [hp]; rcases h with ⟨_, _, rfl⟩ | ⟨_, _, rfl⟩ | ⟨_, _, rfl⟩ | ⟨_, _, rfl⟩
    exacts [.goesOn rfl, .mismatch (by simp), .timesOut (by simp), .goesOn rfl]
  -- the wait before the final byte, and that byte
  · rw [hp]; rcases h with ⟨_, rfl⟩ | ⟨_, rfl⟩ <;> exact .goesOn rfl
  · rw [hp]; rcases h with ⟨_, _, rfl⟩ | ⟨_, _, rfl⟩ | ⟨_, _, rfl⟩ | ⟨_, _, rfl⟩
    exacts [.succeeds rfl, .mismatch (by simp), .timesOut (by simp), .goesOn rfl]

namespace ConnectOutcome

variable {p : Phase} {f g : Report}

/-- R184: where CONNECT can find an unexpected byte. -/
theorem phase_of_handshakeFailure (h : ConnectOutcome p f g) (hf : f.busy = true) (hg : g.busy = false)
    (he : g.err = .handshakeFailure) : p = .connectSync ∨ p = .connectEcho ∨ p = .connectAck := by
  cases h with
  | mismatch hp => exact hp
  | starts | goesOn => exact absurd (hf.symm.trans hg) (by simp)
  | refused | succeeds | timesOut => cases he

/-- R181: CONNECT that ends with no error ends in Ready. -/
theorem ready_of_success (h : ConnectOutcome p f g) (hf : f.busy = true) (hg : g.busy = false)
    (he : g.err = .none) : g.session = .ready := by
  cases h with
  | succeeds => rfl
  | starts | goesOn => exact absurd (hf.symm.trans hg) (by simp)
  | refused | mismatch | timesOut => cases he

/-- R181: CONNECT that ends by an error at one of its hold points ends in Faulted. -/
theorem faulted_of_error (h : ConnectOutcome p f g) (hp : p.owner = some .connect) (hf : f.busy = true)
    (hg : g.busy = false) (he : g.err ≠ .none) : g.session = .faulted := by
  cases h with
  | mismatch | timesOut => rfl
  | starts | goesOn => exact absurd (hf.symm.trans hg) (by simp)
  | refused hp' => rcases hp' with rfl | rfl <;> cases hp
  | succeeds => exact absurd rfl he

/-- R181, R182: CONNECT accepted in Disconnected goes to Initializing. -/
theorem initializing_of_start (h : ConnectOutcome p f g) (hp : p = .start) (hs : f.session = .disconnected) :
    g.session = .initializing := by
  subst hp
  cases h with
  | starts => rfl
  | refused _ hs' => exact absurd hs hs'
  | goesOn hp | succeeds hp => cases hp
  | mismatch hp => simp at hp
  | timesOut hp => simp at hp

/-- R181: how CONNECT changes the session. -/
theorem transition (h : ConnectOutcome p f g) (hi : p ≠ .idle) (hne : g.session ≠ f.session) :
    (p = .start ∧ f.session = .disconnected ∧ g.session = .initializing)
      ∨ (p = .connectAck ∧ g.session = .ready ∧ g.err = .none)
      ∨ (g.session = .faulted ∧ (g.err = .handshakeFailure ∨ g.err = .timeout)
        ∧ (p = .connectSync ∨ p = .connectKey1 ∨ p = .connectKey2 ∨ p = .connectEcho ∨ p = .connectAck)) := by
  cases h with
  | starts hp hs => exact .inl ⟨hp.resolve_left hi, hs, rfl⟩
  | refused | goesOn => exact absurd rfl hne
  | succeeds hp => exact .inr (.inl ⟨hp, rfl, rfl⟩)
  | mismatch hp => exact .inr (.inr ⟨rfl, .inl rfl, by tauto⟩)
  | timesOut hp => exact .inr (.inr ⟨rfl, .inr rfl, hp⟩)

end ConnectOutcome

/-! ### CONNECT's key bytes (R184) -/

/-- R130: with a byte in the receive buffer, `uart_rx` takes it and goes on. -/
theorem onRx_of_full {s : State} (h : s.rxFull = true) (late : State → State) (got : Byte → State → State) :
    onRx late got s = got s.rxReg { s with rxFull := false } :=
  if_pos h

theorem execConnect_of_connectKey1 {s : State} (h : s.phase = .connectKey1) :
    execConnect s = .next (onRx (hsFail .timeout 0x00 4) connectGotKey1 s) := by
  rw [execConnect, h]

theorem execConnect_of_connectKey2 {s : State} (h : s.phase = .connectKey2) :
    execConnect s = .next (onRx (hsFail .timeout 0x00 4) connectGotKey2 s) := by
  rw [execConnect, h]

/-- Settles O35: the key bytes by `onRx` at a full buffer; the failures by `ConnectOutcome`, and `ACK_ECHO` by the
invariant's `echo_option`. -/
theorem connectStoresKeyBytesUnchecked : Obligations.ConnectStoresKeyBytesUnchecked := by
  refine ⟨fun s hf => ⟨fun hp => ?_, fun hp => ?_⟩, fun s t hb h ht he => ?_⟩
  · exact (execConnect_of_connectKey1 hp).trans (by rw [onRx_of_full hf]; rfl)
  · exact (execConnect_of_connectKey2 hp).trans (by rw [onRx_of_full hf]; rfl)
  · exact ((execConnect_outcome h).phase_of_handshakeFailure hb ht he).imp_right
      (Or.imp_left fun hp => ⟨hp, fun hinv => hinv.echo_option hp⟩)

/-! ### What a segment does to the session (R181) -/

/-- What one segment of the command `i`, run from the phase `p`, makes of the report `f`; `expired` says whether
the keep-alive ceiling is passed (R190). -/
inductive SessionEffect (i : Instr) (p : Phase) (expired : Bool) (f : Report) : Report → Prop
  /-- any other segment -/
  | keeps {g : Report} (hg : g.session = f.session) : SessionEffect i p expired f g
  | connects {g : Report} (hi : i = .connect) (hg : ConnectOutcome p f g) : SessionEffect i p expired f g
  /-- SEND_CMD after its gap (R190) -/
  | expires (hi : i = .sendCmd) (hp : p = .sendGap) (hk : expired = true) :
      SessionEffect i p expired f ⟨false, .faulted, .sessionExpired⟩
  /-- DISCONNECT (R192) -/
  | disconnects (hi : i = .disconnect) : SessionEffect i p expired f ⟨false, .disconnected, .none⟩

theorem execWakeup_session {s t : State} (h : execWakeup s = .next t) : t.session = s.session := by
  rcases execWakeup_cases h with ⟨_, h⟩ | ⟨_, _, h⟩ | ⟨_, _, rfl⟩
  · rcases h with ⟨_, rfl⟩ | ⟨_, _, rfl⟩ <;> rfl
  · rcases h with ⟨_, rfl⟩ | ⟨_, rfl⟩ <;> rfl
  · rfl

theorem execTransmit_session {s t : State} (h : execTransmit s = .next t) : t.session = s.session := by
  rcases execTransmit_cases h with ⟨_, h⟩ | ⟨_, _, rfl⟩ | ⟨_, _, rfl⟩
  · rcases h with ⟨_, rfl⟩ | ⟨_, rfl⟩ <;> rfl
  · rfl
  · rfl

theorem execReceive_session {s t : State} (h : execReceive s = .next t) : t.session = s.session := by
  rcases execReceive_cases h with ⟨_, h⟩ | ⟨_, _, rfl⟩ | ⟨_, _, _, rfl⟩ | ⟨_, _, _, rfl⟩
  · rcases h with ⟨_, _, _, rfl⟩ | ⟨_, _, rfl⟩ | ⟨_, rfl⟩ <;> rfl
  · rfl
  · rfl
  · rfl

theorem exec_sessionEffect {i : Instr} {s t : State} (h : exec i s = .next t) :
    SessionEffect i s.phase (kaExpired s) s.report t.report := by
  cases i with
  | nop => cases h; exact .keeps rfl
  | wakeup => exact .keeps (execWakeup_session h)
  | transmit => exact .keeps (execTransmit_session h)
  | receive => exact .keeps (execReceive_session h)
  | connect => exact .connects rfl (execConnect_outcome h)
  | sendCmd =>
    rcases execSendCmd_session h with hs | ⟨hp, hk, rfl⟩
    exacts [.keeps hs, .expires rfl hp hk]
  | disconnect => cases h; exact .disconnects rfl

/-- R181: which commands change the session, and how. -/
theorem SessionEffect.transition {i : Instr} {p : Phase} {expired : Bool} {f g : Report}
    (h : SessionEffect i p expired f g) (hne : g.session ≠ f.session) :
    (i = .connect ∧ ConnectOutcome p f g)
      ∨ (i = .sendCmd ∧ p = .sendGap ∧ expired = true ∧ g.session = .faulted ∧ g.err = .sessionExpired)
      ∨ (i = .disconnect ∧ g.session = .disconnected) := by
  cases h with
  | keeps hg => exact absurd hg hne
  | connects hi hg => exact .inl ⟨hi, hg⟩
  | expires hi hp hk => exact .inr (.inl ⟨hi, hp, hk, rfl, rfl⟩)
  | disconnects hi => exact .inr (.inr ⟨hi, rfl⟩)

/-! ### What a step does to the session -/

/-- The state an engine step runs its segment on: the engine's own move is used up, while a tick that waits for the
engine stays pending (R256; log 2, 3). -/
def beforeSegment (s : State) : State := if nextEvent s = .engine then popEvent s else s

/-- It differs from `s` in the model's own two fields at most. -/
theorem beforeSegment_eq (s : State) :
    beforeSegment s = { s with script := (beforeSegment s).script, draws := (beforeSegment s).draws } := by
  unfold beforeSegment
  split
  · exact popEvent_eq s
  · rfl

@[simp] theorem beforeSegment_cmd (s : State) : (beforeSegment s).cmd = s.cmd :=
  (congrArg State.cmd (beforeSegment_eq s)).trans rfl

@[simp] theorem beforeSegment_phase (s : State) : (beforeSegment s).phase = s.phase :=
  (congrArg State.phase (beforeSegment_eq s)).trans rfl

@[simp] theorem beforeSegment_report (s : State) : (beforeSegment s).report = s.report :=
  (congrArg State.report (beforeSegment_eq s)).trans rfl

@[simp] theorem kaExpired_beforeSegment (s : State) : kaExpired (beforeSegment s) = kaExpired s :=
  (congrArg kaExpired (beforeSegment_eq s)).trans rfl

@[simp] theorem gapPassed_beforeSegment (s : State) : gapPassed (beforeSegment s) = gapPassed s :=
  (congrArg gapPassed (beforeSegment_eq s)).trans rfl

/-- R122, R256: the step of a state in which the engine moves. -/
theorem step_of_engineMoves {s : State} (h : engineMoves s = true) : step s = engineStep (beforeSegment s) := by
  obtain ⟨hr, he, hn | hn⟩ := (engineMoves_iff s).1 h <;> simp [step, move, beforeSegment, hr, he, hn]

theorem busy_of_engineMoves {s : State} (h : engineMoves s = true) : s.busy = true :=
  ((engineEnabled_iff s).1 ((engineMoves_iff s).1 h).2.1).1

/-- A step in which the engine moves runs one segment of the command in `CMD` (R122). -/
theorem exec_of_engineMoves {s t : State} {i : Instr} (hm : engineMoves s = true)
    (hd : decode s.cmd = .command i) (h : step s = .next t) : exec i (beforeSegment s) = .next t := by
  rw [step_of_engineMoves hm] at h
  rwa [engineStep_of_command (by simpa using hd)] at h

/-- An illegal word's segment keeps the session. -/
theorem step_sessionEffect {s t : State} (hm : engineMoves s = true) (h : step s = .next t) :
    t.session = s.session
      ∨ ∃ i, decode s.cmd = .command i ∧ SessionEffect i s.phase (kaExpired s) s.report t.report := by
  rw [step_of_engineMoves hm] at h
  rcases engineStep_cases h with ⟨i, hd, h⟩ | ⟨_, _, rfl⟩
  · exact .inr ⟨i, by simpa using hd, by simpa using exec_sessionEffect h⟩
  · exact .inl (congrArg Report.session (beforeSegment_report s))

theorem serialize_session (s : State) : (serialize s).session = s.session :=
  (congrArg State.session (serialize_eq s)).trans rfl

theorem deliver_session (x : Byte) (s : State) : (deliver x s).session = s.session :=
  (congrArg State.session (deliver_eq x s)).trans rfl

theorem moveInReset_session (e : Event) (s : State) : (moveInReset e s).session = s.session :=
  (congrArg State.session (moveInReset_eq e s)).trans rfl

theorem writeReg_session (r : Reg) (v : Word) (s : State) : (writeReg r v s).session = s.session := by
  rcases writeReg_cases r v s with ⟨_, e⟩ | ⟨_, _, e⟩ | ⟨_, _, e⟩ | ⟨_, _, e⟩ | ⟨_, _, e⟩ | ⟨_, e⟩
    <;> simp [e]

/-- Of the agents beside the engine, only reset changes the session. -/
theorem step_session_of_not_engineMoves {s t : State} (hm : engineMoves s ≠ true) (h : step s = .next t) :
    t.session = s.session ∨ (nextEvent s = .rstAssert ∧ t.session = .disconnected) := by
  rcases step_cases h with ⟨_, rfl⟩ | ⟨hm', _⟩ | ⟨hm', _⟩ | ⟨_, _, _, rfl⟩ | ⟨_, _, _, rfl⟩ | ⟨_, _, rfl⟩
    | ⟨_, x, _, rfl⟩ | ⟨_, a, _, _, rfl⟩ | ⟨_, a, v, _, _, rfl⟩ | ⟨_, he, rfl⟩ | ⟨_, _, rfl⟩
  -- a move under `rst`
  · exact .inl ((moveInReset_session _ _).trans (popEvent_session s))
  -- the engine runs a segment: set aside
  · exact absurd hm' hm
  · exact absurd hm' hm
  -- the engine has no step; a tick
  · exact .inl (popEvent_session s)
  · exact .inl (popEvent_session s)
  -- the Serializer; a delivery; a host read; a host write
  · exact .inl ((serialize_session _).trans (popEvent_session s))
  · exact .inl ((deliver_session x _).trans (popEvent_session s))
  · exact .inl (popEvent_session s)
  · exact .inl ((writeReg_session _ v _).trans (popEvent_session s))
  -- `rst` is asserted or released
  · exact .inr ⟨he, rfl⟩
  · exact .inl (popEvent_session s)

/-- An engine step of CONNECT (R182). -/
theorem step_connectOutcome {s t : State} (hm : engineMoves s = true) (hd : decode s.cmd = .command .connect)
    (h : step s = .next t) : ConnectOutcome s.phase s.report t.report := by
  simpa using execConnect_outcome (exec_of_engineMoves hm hd h)

/-- R190: an engine step after the gap that finds the ceiling passed. -/
theorem step_session_of_expired {s t : State} (hinv : Inv s) (hm : engineMoves s = true)
    (hp : s.phase = .sendGap) (hk : kaExpired s = true) (h : step s = .next t) : t.session = .faulted := by
  have hd : decode s.cmd = .command .sendCmd := hinv.owner .sendCmd (by rw [hp]; rfl)
  have hg : gapPassed s = true := by
    have he := ((engineEnabled_iff s).1 ((engineMoves_iff s).1 hm).2.1).2
    rwa [holdReady, hp] at he
  have hx := (execSendCmd_of_sendGap (by simpa using hp)).symm.trans (exec_of_engineMoves hm hd h)
  rw [onGap_of_passed (by simpa using hg), sendAfterGap_of_expired (by simpa using hk)] at hx
  cases hx; rfl

/-- Settles O52: the engine's transitions by `SessionEffect.transition` and `ConnectOutcome.transition`, the others by
`step_session_of_not_engineMoves`; each command's row happens by `ConnectOutcome`, by `step_session_of_expired` and
by DISCONNECT's one segment. -/
theorem sessionTransitionsAreThoseOfTheTable : Obligations.SessionTransitionsAreThoseOfTheTable := by
  refine ⟨fun s t hinv h hne => ?_, fun s t hinv h hm => ?_⟩
  -- a change of the session is one of the six rows
  · by_cases hm : engineMoves s = true
    · obtain ⟨i, hd, he⟩ := (step_sessionEffect hm h).resolve_left hne
      have hi : s.phase ≠ .idle := hinv.busy_iff.1 (busy_of_engineMoves hm)
      rcases he.transition hne with ⟨rfl, ho⟩ | ⟨rfl, hp, hk, ht, hr⟩ | ⟨rfl, ht⟩
      · rcases ho.transition hi hne with ⟨hp, hs, ht⟩ | ⟨hp, ht, hr⟩ | ⟨ht, hr, hp⟩
        · exact .inl ⟨hm, hd, hp, hs, ht⟩
        · have hs := hinv.initializing.2 (by rw [hp]; rfl)
          exact .inr (.inl ⟨hm, hd, hp, hs, ht, hr⟩)
        · have hs := hinv.initializing.2 (by rcases hp with hp | hp | hp | hp | hp <;> rw [hp] <;> rfl)
          exact .inr (.inr (.inl ⟨hm, hd, hs, ht, hr, hp⟩))
      · have hs := ((kaExpired_iff s).1 hk).1
        exact .inr (.inr (.inr (.inl ⟨hm, hd, hp, hk, hs, ht, hr⟩)))
      · exact .inr (.inr (.inr (.inr (.inl ⟨hm, hd, ht⟩))))
    · have hreset := (step_session_of_not_engineMoves hm h).resolve_left hne
      exact .inr (.inr (.inr (.inr (.inr hreset))))
  -- each command's row happens
  · have hb : s.busy = true := busy_of_engineMoves hm
    refine ⟨fun hd hp hs => (step_connectOutcome hm hd h).initializing_of_start hp hs, fun hp ht he => ?_,
      fun hp ht he => (step_connectOutcome hm (hinv.owner _ hp) h).faulted_of_error hp hb ht he,
      fun hp hk => step_session_of_expired hinv hm hp hk h, fun hd => ?_⟩
    · have hd : decode s.cmd = .command .connect := hinv.owner .connect (by rw [hp]; rfl)
      exact (step_connectOutcome hm hd h).ready_of_success hb ht he
    · cases exec_of_engineMoves hm hd h; rfl

end Sys2Proof.Machine


/-! ## The Frame Codec: SEND_CMD's request and response (44_frame_codec.md) -/

namespace Sys2Proof.Machine

/-! ### SEND_CMD's segments at its hold points (R210) -/

theorem execSendCmd_of_sendSpacing {s : State} (h : s.phase = .sendSpacing) :
    execSendCmd s = .next (onWait s.cfg.tByte (hold .sendTx) s) := by
  rw [execSendCmd, h]

theorem execSendCmd_of_sendTx {s : State} (h : s.phase = .sendTx) :
    execSendCmd s = .next (onTx (frameByte s) (hold .sendEcho) s) := by
  rw [execSendCmd, h]

/-- The segment that takes an echo (R130, R212). -/
theorem execSendCmd_of_echo {s : State} (h : s.phase = .sendEcho) (hf : s.rxFull = true) :
    execSendCmd s = .next (sendGotEcho s.rxReg { s with rxFull := false }) := by
  rw [execSendCmd, h]; exact congrArg _ (onRx_of_full hf ..)

/-- The segment that takes a response byte (R130, R210). -/
theorem execSendCmd_of_response {s : State} (h : s.phase = .sendResp) (hf : s.rxFull = true) :
    execSendCmd s = .next (sendGotResponse s.rxReg { s with rxFull := false }) := by
  rw [execSendCmd, h]; exact congrArg _ (onRx_of_full hf ..)

/-! ### The request bytes and their echoes (R212, R213) -/

theorem sendGotEcho_of_spacing {x : Byte} {s : State} (h : x = frameByte s) (hi : s.locals.idx < s.n + 3) :
    sendGotEcho x s = hold .sendSpacing (setIdx (s.locals.idx + 1) s) := by
  rw [sendGotEcho, if_pos h, if_pos hi]

theorem sendGotEcho_of_last {x : Byte} {s : State} (h : x = frameByte s) (hi : s.n + 3 ≤ s.locals.idx) :
    sendGotEcho x s = hold .sendResp { s with locals := { s.locals with idx := 0, received := [] } } := by
  rw [sendGotEcho, if_pos h, if_neg (Nat.not_lt.2 hi)]

theorem sendGotEcho_of_ne {x : Byte} {s : State} (h : x ≠ frameByte s) :
    sendGotEcho x s = endCmd .echoMismatch x (posByte s.locals.idx) s :=
  if_neg h

/-- Settles O42: each segment by its hold point's equation; an echo by the three cases of `sendGotEcho`. -/
theorem sendCmdConfirmsEveryEcho : Obligations.SendCmdConfirmsEveryEcho := by
  intro s
  refine ⟨fun hp hf => ?_, fun hp hf hx hi => ?_, fun hp hf hx hi => ?_, fun hp hf hx => ?_, fun hp ht => ?_,
    fun hp ht => ?_, fun hp hg hk => ⟨sendAfterGap s, ?_, ?_⟩⟩
  -- a request byte is buffered
  · exact (execSendCmd_of_sendTx hp).trans (by rw [onTx_of_empty hf]; rfl)
  -- its echo: the next byte, the response, the error
  · exact (execSendCmd_of_echo hp hf).trans (congrArg Host.Outcome.next (sendGotEcho_of_spacing hx hi))
  · exact (execSendCmd_of_echo hp hf).trans (congrArg Host.Outcome.next (sendGotEcho_of_last hx hi.ge))
  · exact (execSendCmd_of_echo hp hf).trans (congrArg Host.Outcome.next (sendGotEcho_of_ne hx))
  -- the spacing
  · exact (execSendCmd_of_sendSpacing hp).trans (by rw [onWait_of_le ht]; rfl)
  · exact (execSendCmd_of_sendSpacing hp).trans (by rw [onWait_of_lt ht])
  -- byte 0 follows the gap
  · exact (execSendCmd_of_sendGap hp).trans (by rw [onGap_of_passed ((gapPassed_iff s).2 hg)])
  · simp [sendAfterGap_of_alive hk]

/-! ### The response bytes (R215 to R218) -/

section

variable (c : Config) (p : Buf8) (n e : Nat) (y : Byte)

theorem responseCheck_length : responseCheck c p n e 0 y
    = if y.toNat = c.respLenBase.toNat + n + e then none else some .frameLengthMismatch := rfl

theorem responseCheck_dest :
    responseCheck c p n e 1 y = if y = c.respDest then none else some .addressMismatch := rfl

theorem responseCheck_src :
    responseCheck c p n e 2 y = if y = c.respSrc then none else some .addressMismatch := rfl

theorem responseCheck_command {j : Nat} (h : j < n) :
    responseCheck c p n e (3 + j) y = if y = p.get j then none else some .commandEchoMismatch := by
  simp [responseCheck, h, show 3 + j ≠ 1 by omega, show 3 + j ≠ 2 by omega]

theorem responseCheck_result {pos : Nat} (h : 3 + n ≤ pos) : responseCheck c p n e pos y = none := by
  simp [responseCheck, show pos ≠ 0 by omega, show pos ≠ 1 by omega, show pos ≠ 2 by omega, h]

end

theorem sendGotResponse_of_none {y : Byte} {s : State} (hi : s.locals.idx < 3 + s.n + s.e)
    (hc : responseCheck s.cfg s.pidBuf s.n s.e s.locals.idx y = none) :
    sendGotResponse y s = hold .sendResp { s with locals := { s.locals with
      idx := s.locals.idx + 1, received := s.locals.received ++ [y] } } := by
  rw [sendGotResponse, if_pos hi, hc]

theorem sendGotResponse_of_some {y : Byte} {s : State} {k : ErrorKind} (hi : s.locals.idx < 3 + s.n + s.e)
    (hc : responseCheck s.cfg s.pidBuf s.n s.e s.locals.idx y = some k) :
    sendGotResponse y s = endCmd k y (posByte s.locals.idx) s := by
  rw [sendGotResponse, if_pos hi, hc]

theorem sendGotResponse_of_checksum {y : Byte} {s : State} (hi : 3 + s.n + s.e ≤ s.locals.idx) :
    sendGotResponse y s = sendGotChecksum y s :=
  if_neg (Nat.not_lt.2 hi)

/-- SEND_CMD's state once it has taken the byte of the receive buffer as a response byte (R210). -/
def responseTaken (s : State) : State :=
  { s with
    rxFull := false
    locals := { s.locals with
      t0 := s.now, idx := s.locals.idx + 1, received := s.locals.received ++ [s.rxReg] } }

/-- SEND_CMD's state once that byte has failed its check with the error `k` (R210). -/
def responseFailed (k : ErrorKind) (s : State) : State :=
  endCmd k s.rxReg (posByte s.locals.idx) { s with rxFull := false }

theorem exec_response_of_none {s : State} (hp : s.phase = .sendResp) (hf : s.rxFull = true)
    (hi : s.locals.idx < 3 + s.n + s.e)
    (hc : responseCheck s.cfg s.pidBuf s.n s.e s.locals.idx s.rxReg = none) :
    exec .sendCmd s = .next (responseTaken s) := by
  refine (execSendCmd_of_response hp hf).trans (congrArg Host.Outcome.next ?_)
  exact (sendGotResponse_of_none (s := { s with rxFull := false }) hi hc).trans (hold_of_phase hp)

/-- A response byte is taken where its check's condition `P` holds, and ends the command where it does not. -/
theorem exec_response_of_check {s : State} {k : ErrorKind} {P : Prop} [Decidable P] (hp : s.phase = .sendResp)
    (hf : s.rxFull = true) (hi : s.locals.idx < 3 + s.n + s.e)
    (hc : responseCheck s.cfg s.pidBuf s.n s.e s.locals.idx s.rxReg = if P then none else some k) :
    exec .sendCmd s = if P then .next (responseTaken s) else .next (responseFailed k s) := by
  by_cases h : P
  · rw [if_pos h] at hc ⊢
    exact exec_response_of_none hp hf hi hc
  · rw [if_neg h] at hc ⊢
    refine (execSendCmd_of_response hp hf).trans (congrArg Host.Outcome.next ?_)
    exact sendGotResponse_of_some (s := { s with rxFull := false }) hi hc

/-- Settles O43: the check of each range of response bytes by `responseCheck`'s equations, its outcome by
`exec_response_of_check`. -/
theorem sendCmdChecksEachResponseByte : Obligations.SendCmdChecksEachResponseByte := by
  intro s hp hf hi failed taken
  refine ⟨fun h => ?_, fun h => ?_, fun h => ?_, fun j h hj => ?_, fun h => ?_⟩
  · exact exec_response_of_check hp hf hi (by rw [h, responseCheck_length])
  · exact exec_response_of_check hp hf hi (by rw [h, responseCheck_dest])
  · exact exec_response_of_check hp hf hi (by rw [h, responseCheck_src])
  · exact exec_response_of_check hp hf hi (by rw [h, responseCheck_command _ _ _ _ _ hj])
  · exact exec_response_of_none hp hf hi (responseCheck_result _ _ _ _ _ h)

/-! ### The checksum byte and the commit (R219, R220) -/

theorem sendGotChecksum_of_mismatch {c : Byte} {s : State} (hv : s.cfg.verifyRxChecksum = true)
    (hc : c ≠ checksum s.locals.received) :
    sendGotChecksum c s = endCmd .checksumMismatch c (posByte (3 + s.n + s.e))
      { s with csumComputed := checksum s.locals.received, csumReceived := c } :=
  if_pos ⟨hv, hc⟩

theorem sendGotChecksum_of_accepted {c : Byte} {s : State}
    (h : s.cfg.verifyRxChecksum = false ∨ c = checksum s.locals.received) :
    sendGotChecksum c s
      = finish (commitResults { s with csumComputed := checksum s.locals.received, csumReceived := c }) := by
  refine if_neg fun ⟨hv, hc⟩ => ?_
  rcases h with h | h
  · exact absurd (h.symm.trans hv) Bool.false_ne_true
  · exact hc h

/-- The segment that takes the checksum byte. -/
theorem exec_checksum {s : State} (hp : s.phase = .sendResp) (hf : s.rxFull = true)
    (hi : s.locals.idx = 3 + s.n + s.e) :
    exec .sendCmd s = .next (sendGotChecksum s.rxReg { s with rxFull := false }) := by
  refine (execSendCmd_of_response hp hf).trans (congrArg Host.Outcome.next ?_)
  exact sendGotResponse_of_checksum (s := { s with rxFull := false }) hi.ge

/-- Settles O44: the segment by `exec_checksum`, its two outcomes by `sendGotChecksum`'s equations. -/
theorem sendCmdCommitsTheResult : Obligations.SendCmdCommitsTheResult := by
  refine fun s hp hf hi => ⟨fun h => ?_, fun hv hc => ?_⟩
  · exact (exec_checksum hp hf hi).trans (congrArg Host.Outcome.next (sendGotChecksum_of_accepted h))
  · exact (exec_checksum hp hf hi).trans (congrArg Host.Outcome.next (sendGotChecksum_of_mismatch hv hc))

/-! ### Where a segment ends (R122) -/

theorem execWakeup_phase_next {s t : State} (h : execWakeup s = .next t) :
    t.phase = .idle ∨ t.phase.owner = some .wakeup := by
  rcases execWakeup_cases h with ⟨_, h⟩ | ⟨_, _, h⟩ | ⟨hp, _, rfl⟩
  · rcases h with ⟨_, rfl⟩ | ⟨_, _, rfl⟩
    exacts [.inr rfl, .inl rfl]
  · rcases h with ⟨_, rfl⟩ | ⟨_, rfl⟩
    exacts [.inr rfl, .inl rfl]
  · exact .inr (congrArg Phase.owner hp)

theorem execTransmit_phase_next {s t : State} (h : execTransmit s = .next t) :
    t.phase = .idle ∨ t.phase.owner = some .transmit := by
  rcases execTransmit_cases h with ⟨_, h⟩ | ⟨_, _, rfl⟩ | ⟨hp, _, rfl⟩
  · rcases h with ⟨_, rfl⟩ | ⟨_, rfl⟩
    exacts [.inr rfl, .inl rfl]
  · exact .inl rfl
  · exact .inr (congrArg Phase.owner hp)

theorem execReceive_phase_next {s t : State} (h : execReceive s = .next t) :
    t.phase = .idle ∨ t.phase.owner = some .receive := by
  rcases execReceive_cases h with ⟨_, h⟩ | ⟨_, _, rfl⟩ | ⟨_, _, _, rfl⟩ | ⟨hp, _, _, rfl⟩
  · rcases h with ⟨_, _, _, rfl⟩ | ⟨_, _, rfl⟩ | ⟨_, rfl⟩
    exacts [.inl rfl, .inr rfl, .inl rfl]
  · exact .inl rfl
  · exact .inl rfl
  · exact .inr (congrArg Phase.owner hp)

theorem execConnect_phase_next {s t : State} (h : execConnect s = .next t) :
    t.phase = .idle ∨ t.phase.owner = some .connect := by
  rcases execConnect_cases h with ⟨_, h⟩ | ⟨hp, h⟩ | ⟨hp, h⟩ | ⟨hp, h⟩ | ⟨hp, h⟩ | ⟨hp, h⟩ | ⟨hp, h⟩ | ⟨hp, h⟩
    | ⟨hp, h⟩ | ⟨hp, h⟩ | ⟨hp, h⟩
  -- the first segment
  · rcases h with ⟨_, rfl⟩ | ⟨_, rfl⟩
    exacts [.inr rfl, .inl rfl]
  -- the idle wait and the cells
  · rcases h with ⟨_, rfl⟩ | ⟨_, rfl⟩
    exacts [.inr rfl, .inr (congrArg Phase.owner hp)]
  · rcases h with ⟨_, ⟨_, rfl⟩ | ⟨_, rfl⟩⟩ | ⟨_, rfl⟩
    exacts [.inr rfl, .inr rfl, .inr (congrArg Phase.owner hp)]
  -- the sync byte and the two key bytes
  · rcases h with ⟨_, _, rfl⟩ | ⟨_, _, rfl⟩ | ⟨_, _, rfl⟩ | ⟨_, _, rfl⟩
    exacts [.inr rfl, .inl rfl, .inl rfl, .inr (congrArg Phase.owner hp)]
  · rcases h with ⟨_, rfl⟩ | ⟨_, _, rfl⟩ | ⟨_, _, rfl⟩
    exacts [.inr rfl, .inl rfl, .inr (congrArg Phase.owner hp)]
  · rcases h with ⟨_, rfl⟩ | ⟨_, _, rfl⟩ | ⟨_, _, rfl⟩
    exacts [.inr rfl, .inl rfl, .inr (congrArg Phase.owner hp)]
  -- the wait before `~k2`, its transmission and its echo
  · rcases h with ⟨_, rfl⟩ | ⟨_, rfl⟩
    exacts [.inr rfl, .inr (congrArg Phase.owner hp)]
  · rcases h with ⟨_, _, rfl⟩ | ⟨_, _, rfl⟩ | ⟨_, rfl⟩
    exacts [.inr rfl, .inr rfl, .inr (congrArg Phase.owner hp)]
  · rcases h with ⟨_, _, rfl⟩ | ⟨_, _, rfl⟩ | ⟨_, _, rfl⟩ | ⟨_, _, rfl⟩
    exacts [.inr rfl, .inl rfl, .inl rfl, .inr (congrArg Phase.owner hp)]
  -- the wait before the final byte, and that byte
  · rcases h with ⟨_, rfl⟩ | ⟨_, rfl⟩
    exacts [.inr rfl, .inr (congrArg Phase.owner hp)]
  · rcases h with ⟨_, _, rfl⟩ | ⟨_, _, rfl⟩ | ⟨_, _, rfl⟩ | ⟨_, _, rfl⟩
    exacts [.inl rfl, .inl rfl, .inl rfl, .inr (congrArg Phase.owner hp)]

theorem Phase.owner_of_hasFrame {p : Phase} (h : p.hasFrame = true) : p.owner = some .sendCmd := by
  revert h; cases p <;> decide

/-- R122: after a segment of a command other than SEND_CMD, no request frame is under way. -/
theorem exec_hasFrame_next {i : Instr} {s t : State} (h : exec i s = .next t) (hf : t.phase.hasFrame = true) :
    i = .sendCmd := by
  have other {j : Instr} (h : t.phase = .idle ∨ t.phase.owner = some j) : j = .sendCmd := by
    rcases h with h | h
    · rw [h] at hf; cases hf
    · exact Option.some.inj (h.symm.trans (Phase.owner_of_hasFrame hf))
  cases i with
  | nop => cases h; cases hf
  | wakeup => exact other (execWakeup_phase_next h)
  | transmit => exact other (execTransmit_phase_next h)
  | receive => exact other (execReceive_phase_next h)
  | connect => exact other (execConnect_phase_next h)
  | sendCmd => rfl
  | disconnect => cases h; cases hf

/-! ### The request under way and the outgoing stream (R211) -/

/-- Before request byte `idx` is buffered, the bytes before it have been. -/
theorem bytesSent_of_sendSpacing {s : State} (h : s.phase = .sendSpacing) : bytesSent s = s.locals.idx := by
  rw [bytesSent, h]

theorem bytesSent_of_sendTx {s : State} (h : s.phase = .sendTx) : bytesSent s = s.locals.idx := by
  rw [bytesSent, h]

theorem bytesSent_of_sendEcho {s : State} (h : s.phase = .sendEcho) : bytesSent s = s.locals.idx + 1 := by
  rw [bytesSent, h]

theorem bytesSent_of_sendResp {s : State} (h : s.phase = .sendResp) : bytesSent s = s.n + 4 := by
  rw [bytesSent, h]

/-- How far SEND_CMD's request has come: where the command stands, the frame under send beside the request frame of
the operands, how many bytes of it were buffered, and the outgoing stream. -/
structure Sending where
  phase : Phase
  idx : Nat
  n : Nat
  frame : List Byte
  request : List Byte
  sent : Nat
  stream : List Byte

/-- The request frame of the operands (R100). -/
def State.request (s : State) : List Byte := requestFrame s.cfg (pidBytes s.pidBuf s.n)

def State.sending (s : State) : Sending :=
  ⟨s.phase, s.locals.idx, s.n, s.locals.frame, s.request, bytesSent s, outgoing s⟩

@[simp] theorem request_length (s : State) : s.request.length = s.n + 4 := by
  simp [State.request]

/-- The clauses of the invariant on the request under way. -/
structure Sending.InOrder (v : Sending) : Prop where
  frame : v.phase.hasFrame = true → v.frame = v.request
  index : v.phase = .sendSpacing ∨ v.phase = .sendTx ∨ v.phase = .sendEcho → v.idx ≤ v.n + 3
  sent : v.phase.hasFrame = true → v.request.take v.sent <:+ v.stream

theorem Inv.sending {s : State} (h : Inv s) : s.sending.InOrder := ⟨h.frame, h.request_idx, h.sent⟩

theorem Sending.InOrder.of_not_hasFrame {v : Sending} (h : v.phase.hasFrame = false) : v.InOrder := by
  have none : v.phase.hasFrame ≠ true := by simp [h]
  refine ⟨fun hf => absurd hf none, fun hp => absurd ?_ none, fun hf => absurd hf none⟩
  rcases hp with hp | hp | hp <;> rw [hp] <;> rfl

theorem Sending.InOrder.of_hasFrame {s : State} (h : s.sending.InOrder) (hf : s.phase.hasFrame = true) :
    s.locals.frame = s.request ∧ s.request.take (bytesSent s) <:+ outgoing s :=
  ⟨h.frame hf, h.sent hf⟩

/-- One byte more of a list at the end of a stream that ends with the bytes before it. -/
theorem take_succ_suffix_concat {l out : List Byte} {i : Nat} (hi : i < l.length) (h : l.take i <:+ out) :
    l.take (i + 1) <:+ out ++ [l.getD i 0] := by
  obtain ⟨pre, rfl⟩ := h
  refine ⟨pre, ?_⟩
  rw [List.append_assoc, List.getD_eq_getElem _ _ hi, List.take_append_getElem hi]

theorem outgoing_of_empty {s : State} (h : s.txFull = false) : outgoing s = s.wireTx := by
  simp [outgoing, h]

/-- R211: a segment of SEND_CMD keeps the request in order: it buffers the frame's byte at the index, and raises the
index only after that byte. -/
theorem execSendCmd_inOrder {s t : State} (hs : s.sending.InOrder) (h : execSendCmd s = .next t) :
    t.sending.InOrder := by
  rcases execSendCmd_cases h with ⟨_, h⟩ | ⟨_, h⟩ | ⟨hp, h⟩ | ⟨hp, h⟩ | ⟨hp, h⟩ | ⟨hp, h⟩
  -- the first segment
  · rcases h with ⟨_, rfl⟩ | ⟨_, _, rfl⟩ | ⟨_, _, rfl⟩ <;> exact .of_not_hasFrame rfl
  -- after the gap the frame is the operands', and no byte of it is sent
  · rcases h with ⟨_, _, rfl⟩ | ⟨_, _, rfl⟩ | ⟨_, rfl⟩
    · exact .of_not_hasFrame rfl
    · exact ⟨fun _ => rfl, fun _ => Nat.zero_le _, fun _ => List.nil_suffix⟩
    · exact hs
  -- the spacing
  · obtain ⟨frame, sent⟩ := hs.of_hasFrame (by rw [hp]; rfl)
    rw [bytesSent_of_sendSpacing hp] at sent
    rcases h with ⟨_, rfl⟩ | ⟨_, rfl⟩
    · exact ⟨fun _ => frame, fun _ => hs.index (.inl hp), fun _ => sent⟩
    · exact hs
  -- the frame's byte at the index is buffered
  · obtain ⟨frame, sent⟩ := hs.of_hasFrame (by rw [hp]; rfl)
    rw [bytesSent_of_sendTx hp] at sent
    have index : s.locals.idx ≤ s.n + 3 := hs.index (.inr (.inl hp))
    rcases h with ⟨he, rfl⟩ | ⟨_, rfl⟩
    · rw [outgoing_of_empty he] at sent
      have sent : s.request.take (s.locals.idx + 1) <:+ s.wireTx ++ [frameByte s] := by
        rw [frameByte, frame]
        exact take_succ_suffix_concat (by rw [request_length]; omega) sent
      exact ⟨fun _ => frame, fun _ => index, fun _ => sent⟩
    · exact hs
  -- its echo: the next byte, the response, the two errors
  · obtain ⟨frame, sent⟩ := hs.of_hasFrame (by rw [hp]; rfl)
    rw [bytesSent_of_sendEcho hp] at sent
    have index : s.locals.idx ≤ s.n + 3 := hs.index (.inr (.inr hp))
    rcases h with ⟨_, _, hi, rfl⟩ | ⟨_, _, hi, rfl⟩ | ⟨_, _, rfl⟩ | ⟨_, _, rfl⟩ | ⟨_, _, rfl⟩
    · exact ⟨fun _ => frame, fun _ => Nat.succ_le_of_lt hi, fun _ => sent⟩
    · rw [Nat.le_antisymm index hi] at sent
      exact ⟨fun _ => frame, fun _ => Nat.zero_le _, fun _ => sent⟩
    · exact .of_not_hasFrame rfl
    · exact .of_not_hasFrame rfl
    · exact hs
  -- a response byte
  · obtain ⟨frame, sent⟩ := hs.of_hasFrame (by rw [hp]; rfl)
    rw [bytesSent_of_sendResp hp] at sent
    rcases h with ⟨_, _, _, _, rfl⟩ | ⟨_, _, _, rfl⟩ | ⟨_, _, _, _, rfl⟩ | ⟨_, _, _, rfl⟩ | ⟨_, _, rfl⟩
      | ⟨_, _, rfl⟩
    · exact .of_not_hasFrame rfl
    · exact ⟨fun _ => frame, (by rintro (h | h | h) <;> cases h), fun _ => sent⟩
    · exact .of_not_hasFrame rfl
    · exact .of_not_hasFrame rfl
    · exact .of_not_hasFrame rfl
    · exact hs

/-! ### What a step does to them -/

theorem sending_popEvent (s : State) : (popEvent s).sending = s.sending :=
  (congrArg State.sending (popEvent_eq s)).trans rfl

theorem sending_beforeSegment (s : State) : (beforeSegment s).sending = s.sending :=
  (congrArg State.sending (beforeSegment_eq s)).trans rfl

theorem sending_moveInReset (e : Event) (s : State) : (moveInReset e s).sending = s.sending :=
  (congrArg State.sending (moveInReset_eq e s)).trans rfl

theorem sending_deliver (x : Byte) (s : State) : (deliver x s).sending = s.sending :=
  (congrArg State.sending (deliver_eq x s)).trans rfl

/-- R165: the Serializer moves the byte of the transmit buffer to the wire, and the outgoing stream stays. -/
theorem sending_serialize (s : State) : (serialize s).sending = s.sending := by
  unfold serialize
  split
  · rename_i h
    simp [State.sending, State.request, bytesSent, outgoing, h.1]
  · rfl

/-- R44, R67: a host write leaves the request under way, since a running command keeps it out. -/
theorem writeReg_sending {s : State} (hidle : s.busy = false → s.phase = .idle) (r : Reg) (v : Word) :
    (writeReg r v s).sending = s.sending ∨ (writeReg r v s).phase.hasFrame = false := by
  rcases writeReg_cases r v s with ⟨_, e⟩ | ⟨_, _, e⟩ | ⟨hb, _, e⟩ | ⟨hb, _, e⟩ | ⟨hb, _, e⟩ | ⟨_, e⟩ <;> rw [e]
  · exact .inl rfl
  · exact .inr rfl
  · exact .inr (by rw [hidle hb]; rfl)
  · exact .inr (by rw [hidle hb]; rfl)
  · exact .inr (by rw [hidle hb]; rfl)
  · exact .inl rfl

/-- Of the agents beside the engine, none moves the request on: each leaves it, or no request is under way after
it. -/
theorem step_sending_of_not_engineMoves {s t : State} (hinv : Inv s) (hm : engineMoves s ≠ true)
    (h : step s = .next t) : t.sending = s.sending ∨ t.phase.hasFrame = false := by
  rcases step_cases h with ⟨_, rfl⟩ | ⟨hm', _⟩ | ⟨hm', _⟩ | ⟨_, _, _, rfl⟩ | ⟨_, _, _, rfl⟩ | ⟨_, _, rfl⟩
    | ⟨_, x, _, rfl⟩ | ⟨_, a, _, _, rfl⟩ | ⟨_, a, v, _, _, rfl⟩ | ⟨_, _, rfl⟩ | ⟨_, _, rfl⟩
  -- a move under `rst`
  · exact .inl ((sending_moveInReset _ _).trans (sending_popEvent s))
  -- the engine runs a segment: set aside
  · exact absurd hm' hm
  · exact absurd hm' hm
  -- the engine has no step; a tick
  · exact .inl (sending_popEvent s)
  · exact .inl (sending_popEvent s)
  -- the Serializer; a delivery; a host read; a host write
  · exact .inl ((sending_serialize _).trans (sending_popEvent s))
  · exact .inl ((sending_deliver x _).trans (sending_popEvent s))
  · exact .inl (sending_popEvent s)
  · rw [← sending_popEvent s]
    exact writeReg_sending (fun hb => by simpa using mt hinv.busy_iff.2 (by simpa using hb)) _ v
  -- `rst` is asserted or released
  · exact .inr rfl
  · exact .inl (sending_popEvent s)

/-- R211: every step keeps the request in order. -/
theorem step_inOrder {s t : State} (hinv : Inv s) (h : step s = .next t) : t.sending.InOrder := by
  by_cases hm : engineMoves s = true
  · cases hf : t.phase.hasFrame with
    | false => exact .of_not_hasFrame hf
    | true =>
      rw [step_of_engineMoves hm] at h
      rcases engineStep_cases h with ⟨i, _, h⟩ | ⟨_, _, rfl⟩
      · obtain rfl := exec_hasFrame_next h hf
        exact execSendCmd_inOrder (sending_beforeSegment s ▸ hinv.sending) h
      · cases hf
  · rcases step_sending_of_not_engineMoves hinv hm h with e | hf
    · exact e ▸ hinv.sending
    · exact .of_not_hasFrame hf

theorem serialize_wireTx (s : State) :
    (serialize s).wireTx = s.wireTx ∨ (serialize s).wireTx = s.wireTx ++ [s.txReg] := by
  unfold serialize
  split
  · exact .inr rfl
  · exact .inl rfl

theorem writeReg_wireTx (r : Reg) (v : Word) (s : State) : (writeReg r v s).wireTx = s.wireTx := by
  rcases writeReg_cases r v s with ⟨_, e⟩ | ⟨_, _, e⟩ | ⟨_, _, e⟩ | ⟨_, _, e⟩ | ⟨_, _, e⟩ | ⟨_, e⟩
    <;> simp [e]

/-- R165: the wire grows only by `tx_reg` in a Serializer step. -/
theorem step_wireTx {s t : State} (h : step s = .next t) :
    t.wireTx = s.wireTx ∨ (nextEvent s = .serialize ∧ t.wireTx = s.wireTx ++ [s.txReg]) := by
  rcases step_cases h with ⟨_, rfl⟩ | ⟨_, _, h⟩ | ⟨_, _, h⟩ | ⟨_, _, _, rfl⟩ | ⟨_, _, _, rfl⟩ | ⟨_, he, rfl⟩
    | ⟨_, x, _, rfl⟩ | ⟨_, a, _, _, rfl⟩ | ⟨_, a, v, _, _, rfl⟩ | ⟨_, _, rfl⟩ | ⟨_, _, rfl⟩
  -- a move under `rst`
  · exact .inl ((congrArg State.wireTx (moveInReset_eq _ _)).trans (popEvent_wireTx s))
  -- the engine runs a segment, at its own move or before a waiting tick
  · exact .inl ((engineStep_segmentFrame h).wireTx.trans (popEvent_wireTx s))
  · exact .inl (engineStep_segmentFrame h).wireTx
  -- the engine has no step; a tick
  · exact .inl (popEvent_wireTx s)
  · exact .inl (popEvent_wireTx s)
  -- the Serializer; a delivery; a host read; a host write
  · exact (serialize_wireTx (popEvent s)).imp (by simp) (by simp [he])
  · exact .inl ((congrArg State.wireTx (deliver_eq x _)).trans (popEvent_wireTx s))
  · exact .inl (popEvent_wireTx s)
  · exact .inl ((writeReg_wireTx _ v _).trans (popEvent_wireTx s))
  -- `rst` is asserted or released
  · exact .inl (popEvent_wireTx s)
  · exact .inl (popEvent_wireTx s)

/-- Settles O55: the request's bytes by `step_inOrder` at the echo and at the response, where `bytesSent` is the
index past the byte and the frame's length; the wire by `step_wireTx`. -/
theorem requestBytesLeaveInFrameOrder : Obligations.RequestBytesLeaveInFrameOrder := by
  intro s t hinv h
  have order := step_inOrder hinv h
  refine ⟨fun hp => ⟨?_, ?_⟩, fun hp => ?_, step_wireTx h⟩
  · obtain ⟨_, sent⟩ := order.of_hasFrame (by rw [hp]; rfl)
    rwa [bytesSent_of_sendEcho hp] at sent
  · exact Nat.lt_succ_of_le (order.index (.inr (.inr hp)))
  · obtain ⟨_, sent⟩ := order.of_hasFrame (by rw [hp]; rfl)
    rwa [bytesSent_of_sendResp hp, ← request_length, List.take_length] at sent

end Sys2Proof.Machine

/-! ## Time and errors (60_exceptions.md) -/

namespace Sys2Proof.Machine

/-! ### What a step does to `NOW` (R255) -/

/-- A host write changes the operands, what acceptance records, and no other field (R67, R121). -/
theorem writeReg_eq (r : Reg) (v : Word) (s : State) :
    writeReg r v s = { s with
      cmd := (writeReg r v s).cmd, txData := (writeReg r v s).txData, cmdLen := (writeReg r v s).cmdLen,
      expLen := (writeReg r v s).expLen, pidBuf := (writeReg r v s).pidBuf, busy := (writeReg r v s).busy,
      rxOverrun := (writeReg r v s).rxOverrun, phase := (writeReg r v s).phase,
      locals := (writeReg r v s).locals, rxAtAccept := (writeReg r v s).rxAtAccept } := by
  rcases writeReg_cases r v s with ⟨_, e⟩ | ⟨_, _, e⟩ | ⟨_, _, e⟩ | ⟨_, _, e⟩ | ⟨_, _, e⟩ | ⟨_, e⟩
    <;> rw [e]
  -- left by `rw` is a command's acceptance
  rfl

/-- R255: a tick that comes next while the engine has no step is taken. -/
theorem step_tick {s : State} (hr : s.rst = false) (hn : nextEvent s = .tick) (he : engineEnabled s = false) :
    step s = .next (tick (popEvent s)) :=
  move_takesTick ((takesTick_iff _ s).2 ⟨hn, hr, he⟩)

/-- R255: time passes by a tick alone, and the assertion of `rst` sets it back. -/
theorem step_now {s t : State} (h : step s = .next t) :
    t.now = s.now ∨ (s.rst = false ∧ nextEvent s = .tick ∧ engineEnabled s = false ∧ t.now = s.now + 1)
      ∨ (s.rst = false ∧ nextEvent s = .rstAssert ∧ t.now = 0) := by
  rcases step_cases h with ⟨_, rfl⟩ | ⟨_, _, h⟩ | ⟨_, _, h⟩ | ⟨_, _, _, rfl⟩ | ⟨hr, hn, he, rfl⟩ | ⟨_, _, rfl⟩
    | ⟨_, x, _, rfl⟩ | ⟨_, a, _, _, rfl⟩ | ⟨_, a, v, _, _, rfl⟩ | ⟨hr, hn, rfl⟩ | ⟨_, _, rfl⟩
  -- a move under `rst`
  · exact .inl ((congrArg State.now (moveInReset_eq _ _)).trans (popEvent_now s))
  -- the engine runs a segment, at its own move or before a waiting tick
  · exact .inl ((engineStep_segmentFrame h).now.trans (popEvent_now s))
  · exact .inl (engineStep_segmentFrame h).now
  -- the engine has no step; a tick
  · exact .inl (popEvent_now s)
  · exact .inr (.inl ⟨hr, hn, he, by simp⟩)
  -- the Serializer; a delivery; a host read; a host write
  · exact .inl ((congrArg State.now (serialize_eq _)).trans (popEvent_now s))
  · exact .inl ((congrArg State.now (deliver_eq x _)).trans (popEvent_now s))
  · exact .inl (popEvent_now s)
  · exact .inl ((congrArg State.now (writeReg_eq _ v _)).trans (popEvent_now s))
  -- `rst` is asserted or released
  · exact .inr (.inr ⟨hr, hn, rfl⟩)
  · exact .inl (popEvent_now s)

/-- Settles O19: the tick's effect by `step_tick`, every other step by `step_now`. -/
theorem nowCountsTicks : Obligations.NowCountsTicks := by
  refine ⟨fun s hr hn he => ⟨?_, BitVec.toNat_add s.now 1⟩, fun s t h => step_now h⟩
  rw [step_tick hr hn he, tick, popEvent_now]

/-! ### `raise` (R246) -/

/-- Settles O16: the fields are those `raiseError` writes, and `ERROR` shows them by `readReg_error_raiseError`. -/
theorem raiseRecordsTheErrorAndEndsTheCommand : Obligations.RaiseRecordsTheErrorAndEndsTheCommand :=
  fun k byte pos s => ⟨rfl, readReg_error_raiseError k byte pos s⟩

end Sys2Proof.Machine

/-! ## The invariant: reset meets it and every step keeps it (10_state.md, log 18) -/

namespace Sys2Proof.Machine

/-! ### What the invariant says at each command's hold points -/

/-- The clause on reset (R270) says nothing of a block whose `rst` is released. -/
theorem resetHeld_of_released {s : State} (h : s.rst = false) : s.rst = true → resetBlock s = s :=
  fun hr => absurd (h.symm.trans hr) Bool.false_ne_true

/-- What the invariant says of the session, the result and the line where neither CONNECT nor SEND_CMD nor a wake
byte is under way. -/
def AtRest (s : State) : Prop :=
  s.session ≠ .initializing ∧ (s.session = .ready → s.lineMode = .uart)
    ∧ (s.resValid = true → s.session = .ready) ∧ (s.txFull = true → s.lineMode = .uart) ∧ s.kline = true

theorem Inv.atRest {s : State} (h : Inv s) (ho : s.phase.owner ≠ some .connect) (hc : s.phase.isCell = false) :
    AtRest s :=
  ⟨fun hs => ho (h.initializing.1 hs), h.ready_uart, fun hv => (h.valid_ready hv).1, h.tx_uart, h.line_high hc⟩

/-- Between two commands, and at the hold points of TRANSMIT and RECEIVE, nothing more is to be shown. -/
theorem AtRest.inv {s : State} (h : AtRest s)
    (hp : s.phase = .idle ∨ s.phase = .start ∨ s.phase = .transmitTx ∨ s.phase = .receiveRx)
    (hb : s.busy = true ↔ s.phase ≠ .idle)
    (ho : ∀ i, s.phase.owner = some i → decode s.cmd = .command i ∧ s.lineMode = .uart)
    (ha : s.phase = .start → s.rxAtAccept = true → s.rxFull = true)
    (hr : s.rst = true → resetBlock s = s) : Inv s := by
  obtain ⟨hs, hu, hv, ht, hk⟩ := h
  have other : s.phase.owner ≠ some .connect ∧ s.phase.owner ≠ some .sendCmd ∧ s.phase.inGpio = false
      ∧ s.phase.isCell = false ∧ s.phase.afterSync = false ∧ s.phase.hasFrame = false := by
    rcases hp with hp | hp | hp | hp <;> rw [hp] <;> decide
  obtain ⟨hc, hd, hg, hi, hy, hf⟩ := other
  refine
    { busy_iff := hb, owner := fun i hi => (ho i hi).1, initializing := ⟨fun h => absurd h hs, fun h => absurd h hc⟩,
      ready_uart := hu, valid_ready := fun h => ⟨hv h, hd⟩, tx_uart := ht, line_high := fun _ => hk,
      gpio_phases := by simp [hg], uart_phases := fun h _ => ?_, wake_session := by rintro h; simp [h] at hp,
      cells := by simp [hi], sync_ok := by simp [hy], echo_option := by rintro h; simp [h] at hp,
      send_ready := fun h => absurd h hd, frame := by simp [hf],
      request_idx := by rintro (h | h | h) <;> simp [h] at hp, sent := by simp [hf],
      response := by rintro h; simp [h] at hp, accepted_byte := ha, reset_held := hr }
  obtain ⟨i, hi⟩ := Option.ne_none_iff_exists'.1 h
  exact (ho i hi).2

/-- A command that has ended leaves the block between two commands. -/
theorem AtRest.inv_idle {s : State} (h : AtRest s) (hp : s.phase = .idle) (hb : s.busy = false)
    (hr : s.rst = true → resetBlock s = s) : Inv s :=
  h.inv (.inl hp) (by simp [hp, hb]) (by simp [hp, Phase.owner]) (by simp [hp]) hr

/-- A cell of WAKEUP (R150, R152). -/
theorem inv_of_wakeCell {s : State} (hp : s.phase = .wakeCell) (hb : s.busy = true)
    (hd : decode s.cmd = .command .wakeup) (hs : s.session = .disconnected ∨ s.session = .faulted)
    (hv : s.resValid = false) (hl : s.lineMode = .gpio) (ht : s.txFull = false)
    (hc : s.locals.idx ≤ 9 ∧ s.kline = wakeLevel s.cfg s.locals.idx) (hr : s.rst = false) : Inv s where
  busy_iff := by simp [hp, hb]
  owner := by simpa [hp, Phase.owner] using hd
  initializing := by rcases hs with hs | hs <;> simp [hp, hs, Phase.owner]
  ready_uart := by rcases hs with hs | hs <;> simp [hs]
  valid_ready := by simp [hv]
  tx_uart := by simp [ht]
  line_high := by simp [hp, Phase.isCell]
  gpio_phases := fun _ => hl
  uart_phases := by simp [hp, Phase.inGpio, Phase.isCell]
  wake_session := by rcases hs with hs | hs <;> simp [hs]
  cells := fun _ => hc
  sync_ok := by simp [hp, Phase.afterSync]
  echo_option := by simp [hp]
  send_ready := by simp [hp, Phase.owner]
  frame := by simp [hp, Phase.hasFrame]
  request_idx := by simp [hp]
  sent := by simp [hp, Phase.hasFrame]
  response := by simp [hp]
  accepted_byte := by simp [hp]
  reset_held := resetHeld_of_released hr

/-- What holds at every hold point of CONNECT (R26, R182). -/
def Connecting (s : State) : Prop :=
  s.busy = true ∧ decode s.cmd = .command .connect ∧ s.session = .initializing ∧ s.resValid = false ∧ s.rst = false

/-- At a hold point of CONNECT the clauses on the line, the cells, the sync byte and the echo are left to show. -/
theorem Connecting.inv {s : State} (h : Connecting s) (hp : s.phase.owner = some .connect)
    (ht : s.txFull = true → s.lineMode = .uart) (hk : s.phase.isCell = false → s.kline = true)
    (hg : s.phase.inGpio = true → s.lineMode = .gpio) (hu : s.phase.inGpio = false → s.lineMode = .uart)
    (hc : s.phase.isCell = true → s.locals.idx ≤ 9 ∧ s.kline = wakeLevel s.cfg s.locals.idx)
    (hy : s.phase.afterSync = true → s.keySync = s.cfg.syncByte)
    (he : s.phase = .connectEcho → s.cfg.ackEcho = true) : Inv s := by
  obtain ⟨hb, hd, hs, hv, hr⟩ := h
  have hf : s.phase.hasFrame = false := by
    cases hf : s.phase.hasFrame
    · rfl
    · cases hp.symm.trans (Phase.owner_of_hasFrame hf)
  exact
    { busy_iff := ⟨fun _ h => by simp [h, Phase.owner] at hp, fun _ => hb⟩,
      owner := by simpa [hp] using hd, initializing := by simp [hs, hp], ready_uart := by simp [hs],
      valid_ready := by simp [hv], tx_uart := ht, line_high := hk, gpio_phases := hg, uart_phases := fun _ => hu,
      wake_session := by simp [hs], cells := hc, sync_ok := hy, echo_option := he,
      send_ready := by simp [hp], frame := by simp [hf],
      request_idx := by rintro (h | h | h) <;> simp [h, Phase.owner] at hp, sent := by simp [hf],
      response := by rintro h; simp [h, Phase.owner] at hp,
      accepted_byte := by rintro h; simp [h, Phase.owner] at hp, reset_held := resetHeld_of_released hr }

theorem Inv.connecting {s : State} (h : Inv s) (hp : s.phase.owner = some .connect) (hr : s.rst = false) :
    Connecting s := by
  have hs : s.session = .initializing := h.initializing.2 hp
  refine ⟨h.busy_iff.2 fun hi => by simp [hi, Phase.owner] at hp, h.owner _ hp, hs, ?_, hr⟩
  refine Bool.eq_false_iff.2 fun hv => ?_
  cases hs.symm.trans (h.valid_ready hv).1

/-- At the hold points of CONNECT in UART mode the line is high and no cell is under way (R182, steps 3 to 6). -/
theorem Connecting.inv_uart {s : State} (h : Connecting s) (hp : s.phase.owner = some .connect)
    (hg : s.phase.inGpio = false) (hu : s.lineMode = .uart) (hk : s.kline = true)
    (hy : s.phase.afterSync = true → s.keySync = s.cfg.syncByte)
    (he : s.phase = .connectEcho → s.cfg.ackEcho = true) : Inv s := by
  have hc : s.phase.isCell = false := (Bool.or_eq_false_iff.1 hg).1
  exact h.inv hp (fun _ => hu) (fun _ => hk) (by simp [hg]) (fun _ => hu) (by simp [hc]) hy he

/-- What holds at every hold point of SEND_CMD (R25, R133). -/
def Exchanging (s : State) : Prop :=
  s.busy = true ∧ decode s.cmd = .command .sendCmd ∧ s.session = .ready ∧ s.resValid = false
    ∧ lengthsLegal s.cfg s.n s.e = true ∧ s.lineMode = .uart ∧ s.kline = true ∧ s.rst = false

/-- R103, R210: every response byte taken so far passed its check. -/
def ResponseChecked (s : State) : Prop :=
  s.locals.idx = s.locals.received.length ∧ s.locals.idx ≤ 3 + s.n + s.e
    ∧ ∀ i, i < s.locals.idx → responseCheck s.cfg s.pidBuf s.n s.e i (s.locals.received.getD i 0) = none

/-- At a hold point of SEND_CMD the clauses on the request and on the response are left to show. -/
theorem Exchanging.inv {s : State} (h : Exchanging s) (hp : s.phase.owner = some .sendCmd)
    (ho : s.sending.InOrder) (hx : s.phase = .sendResp → ResponseChecked s) : Inv s := by
  obtain ⟨hb, hd, hs, hv, hl, hu, hk, hr⟩ := h
  have other : ∀ p : Phase, p.owner = some .sendCmd → p.inGpio = false ∧ p.isCell = false ∧ p.afterSync = false := by
    intro p; cases p <;> decide
  obtain ⟨hg, hc, hy⟩ := other _ hp
  exact
    { busy_iff := ⟨fun _ h => by simp [h, Phase.owner] at hp, fun _ => hb⟩,
      owner := by simpa [hp] using hd, initializing := by simp [hs, hp], ready_uart := fun _ => hu,
      valid_ready := by simp [hv], tx_uart := fun _ => hu, line_high := fun _ => hk, gpio_phases := by simp [hg],
      uart_phases := fun _ _ => hu, wake_session := by rintro h; simp [h, Phase.owner] at hp,
      cells := by simp [hc], sync_ok := by simp [hy], echo_option := by rintro h; simp [h, Phase.owner] at hp,
      send_ready := fun _ => ⟨hs, hl⟩, frame := ho.frame, request_idx := ho.index, sent := ho.sent, response := hx,
      accepted_byte := by rintro h; simp [h, Phase.owner] at hp, reset_held := resetHeld_of_released hr }

theorem Inv.exchanging {s : State} (h : Inv s) (hp : s.phase.owner = some .sendCmd) (hr : s.rst = false) :
    Exchanging s := by
  obtain ⟨hs, hl⟩ := h.send_ready hp
  have hc : s.phase.isCell = false := by revert hp; cases s.phase <;> decide
  refine ⟨h.busy_iff.2 fun hi => by simp [hi, Phase.owner] at hp, h.owner _ hp, hs, ?_, hl, h.ready_uart hs,
    h.line_high hc, hr⟩
  exact Bool.eq_false_iff.2 fun hv => (h.valid_ready hv).2 hp

/-! ### The engine's segments keep the invariant -/

/-- A command at its start or at a hold point with no part in the session ends by an error. -/
theorem Inv.raiseError {s : State} (h : Inv s) (hr : s.rst = false) (ho : s.phase.owner ≠ some .connect)
    (hc : s.phase.isCell = false) (k : ErrorKind) (b p : Byte) : Inv (raiseError k b p s) :=
  AtRest.inv_idle (h.atRest ho hc) rfl rfl (resetHeld_of_released hr)

section

variable {s t : State} (hinv : Inv s) (hr : s.rst = false) (hi : s.phase ≠ .idle)

include hinv hr hi

theorem execWakeup_inv (hd : decode s.cmd = .command .wakeup) (h : execWakeup s = .next t) : Inv t := by
  have hb : s.busy = true := hinv.busy_iff.2 hi
  have invalid (hs : s.session ≠ .ready) : s.resValid = false :=
    Bool.eq_false_iff.2 fun hv => hs (hinv.valid_ready hv).1
  rcases execWakeup_cases h with ⟨hp, h⟩ | ⟨hp, _, h⟩ | ⟨_, _, rfl⟩
  -- the first cell
  · rcases h with ⟨hs, rfl⟩ | ⟨_, _, rfl⟩
    · have hv := invalid (by rcases hs with hs | hs <;> simp [hs])
      exact inv_of_wakeCell rfl hb hd hs hv rfl rfl ⟨Nat.zero_le _, rfl⟩ hr
    · rw [or_iff_right hi] at hp
      exact hinv.raiseError hr (by simp [hp, Phase.owner]) (by simp [hp, Phase.isCell]) ..
  -- the next cell; after the tenth the line is high
  · have hv := invalid (hinv.wake_session hp)
    have hl : s.lineMode = .gpio := hinv.gpio_phases (by rw [hp]; rfl)
    have hn : s.session ≠ .initializing := fun hs => by simpa [hp, Phase.owner] using hinv.initializing.1 hs
    have hs : s.session = .disconnected ∨ s.session = .faulted := by
      have hready := hinv.wake_session hp
      cases hs : s.session <;> simp_all
    have ht : s.txFull = false := Bool.eq_false_iff.2 fun ht => by simpa [hl] using hinv.tx_uart ht
    rcases h with ⟨h9, rfl⟩ | ⟨h9, rfl⟩
    · exact inv_of_wakeCell rfl hb hd hs hv hl ht ⟨h9, rfl⟩ hr
    · obtain ⟨hle, hk⟩ := hinv.cells (by rw [hp]; rfl)
      rw [Nat.le_antisymm hle h9, wakeLevel_nine] at hk
      exact AtRest.inv_idle ⟨hn, hinv.ready_uart, by simp [hv], hinv.tx_uart, hk⟩ rfl rfl (resetHeld_of_released hr)
  -- the engine holds
  · exact hinv

theorem execTransmit_inv (hd : decode s.cmd = .command .transmit) (h : execTransmit s = .next t) : Inv t := by
  have hb : s.busy = true := hinv.busy_iff.2 hi
  have rest (hp : s.phase = .start ∨ s.phase = .transmitTx) : AtRest s := by
    rcases hp with hp | hp <;> exact hinv.atRest (by simp [hp, Phase.owner]) (by rw [hp]; rfl)
  rcases execTransmit_cases h with ⟨hp, h⟩ | ⟨hp, _, rfl⟩ | ⟨_, _, rfl⟩
  · rw [or_iff_right hi] at hp
    rcases h with ⟨hl, rfl⟩ | ⟨_, rfl⟩
    · exact AtRest.inv (rest (.inl hp)) (by simp) (by simp [hb])
        (fun i e => by cases e; exact ⟨hd, hl⟩) (by simp) (resetHeld_of_released hr)
    · exact AtRest.inv_idle (rest (.inl hp)) rfl rfl (resetHeld_of_released hr)
  -- the byte is buffered, in UART mode
  · obtain ⟨hs, hu, hv, _, hk⟩ := rest (.inr hp)
    have hl : s.lineMode = .uart := hinv.uart_phases (by simp [hp, Phase.owner]) (by rw [hp]; rfl)
    exact AtRest.inv_idle ⟨hs, hu, hv, fun _ => hl, hk⟩ rfl rfl (resetHeld_of_released hr)
  · exact hinv

theorem execReceive_inv (hd : decode s.cmd = .command .receive) (h : execReceive s = .next t) : Inv t := by
  have hb : s.busy = true := hinv.busy_iff.2 hi
  have rest (hp : s.phase = .start ∨ s.phase = .receiveRx) : AtRest s := by
    rcases hp with hp | hp <;> exact hinv.atRest (by simp [hp, Phase.owner]) (by rw [hp]; rfl)
  rcases execReceive_cases h with ⟨hp, h⟩ | ⟨hp, _, rfl⟩ | ⟨hp, _, _, rfl⟩ | ⟨_, _, _, rfl⟩
  · rw [or_iff_right hi] at hp
    rcases h with ⟨_, _, _, rfl⟩ | ⟨hl, _, rfl⟩ | ⟨_, rfl⟩
    · exact AtRest.inv_idle (rest (.inl hp)) rfl rfl (resetHeld_of_released hr)
    · exact AtRest.inv (rest (.inl hp)) (by simp) (by simp [hb])
        (fun i e => by cases e; exact ⟨hd, hl⟩) (by simp) (resetHeld_of_released hr)
    · exact AtRest.inv_idle (rest (.inl hp)) rfl rfl (resetHeld_of_released hr)
  · exact AtRest.inv_idle (rest (.inr hp)) rfl rfl (resetHeld_of_released hr)
  · exact AtRest.inv_idle (rest (.inr hp)) rfl rfl (resetHeld_of_released hr)
  · exact hinv

end
/-- `hs_fail` ends CONNECT in Faulted, with the line high in UART mode (R182). -/
theorem Connecting.inv_hsFail {s : State} {k : ErrorKind} {b p : Byte} (h : Connecting s)
    (hu : s.lineMode = .uart) (hk : s.kline = true) : Inv (hsFail k b p s) := by
  obtain ⟨_, _, _, hv, hr⟩ := h
  exact AtRest.inv_idle ⟨by simp, by simp, by simp [hv], fun _ => hu, hk⟩ rfl rfl (resetHeld_of_released hr)

/-- The hold points of CONNECT in UART mode. -/
theorem Inv.connecting_uart {s : State} {p : Phase} (h : Inv s) (hr : s.rst = false) (hp : s.phase = p)
    (ho : p.owner = some .connect) (hg : p.inGpio = false) :
    Connecting s ∧ s.lineMode = .uart ∧ s.kline = true := by
  subst hp
  exact ⟨h.connecting ho hr, h.uart_phases (by simp [ho]) hg, h.line_high (Bool.or_eq_false_iff.1 hg).1⟩

theorem execConnect_inv {s t : State} (hinv : Inv s) (hr : s.rst = false) (hi : s.phase ≠ .idle)
    (hd : decode s.cmd = .command .connect) (h : execConnect s = .next t) : Inv t := by
  have hb : s.busy = true := hinv.busy_iff.2 hi
  rcases execConnect_cases h with ⟨hp, h⟩ | ⟨hp, h⟩ | ⟨hp, h⟩ | ⟨hp, h⟩ | ⟨hp, h⟩ | ⟨hp, h⟩ | ⟨hp, h⟩ | ⟨hp, h⟩
    | ⟨hp, h⟩ | ⟨hp, h⟩ | ⟨hp, h⟩
  -- the first segment
  · rw [or_iff_right hi] at hp
    rcases h with ⟨hs, rfl⟩ | ⟨_, rfl⟩
    · have hv : s.resValid = false := Bool.eq_false_iff.2 fun hv => by simpa [hs] using (hinv.valid_ready hv).1
      exact Connecting.inv ⟨hb, hd, rfl, hv, hr⟩ rfl nofun (fun _ => rfl) (fun _ => rfl) nofun nofun nofun nofun
    · exact hinv.raiseError hr (by simp [hp, Phase.owner]) (by rw [hp]; rfl) ..
  -- the idle wait and the cells, of which the last ends in UART mode
  · have hc := hinv.connecting (by rw [hp]; rfl) hr
    have hl : s.lineMode = .gpio := hinv.gpio_phases (by rw [hp]; rfl)
    rcases h with ⟨_, rfl⟩ | ⟨_, rfl⟩
    · exact Connecting.inv hc rfl hinv.tx_uart nofun (fun _ => hl) nofun (fun _ => ⟨Nat.zero_le _, rfl⟩) nofun nofun
    · exact hinv
  · have hc := hinv.connecting (by rw [hp]; rfl) hr
    have hl : s.lineMode = .gpio := hinv.gpio_phases (by rw [hp]; rfl)
    rcases h with ⟨_, ⟨h9, rfl⟩ | ⟨_, rfl⟩⟩ | ⟨_, rfl⟩
    · exact Connecting.inv hc rfl hinv.tx_uart nofun (fun _ => hl) nofun (fun _ => ⟨h9, rfl⟩) nofun nofun
    · exact Connecting.inv_uart hc rfl rfl rfl rfl nofun nofun
    · exact hinv
  -- the sync byte is stored and checked
  · obtain ⟨hc, hu, hk⟩ := hinv.connecting_uart hr hp rfl rfl
    rcases h with ⟨_, hx, rfl⟩ | ⟨_, _, rfl⟩ | ⟨_, _, rfl⟩ | ⟨_, _, rfl⟩
    · exact Connecting.inv_uart hc rfl rfl hu hk (fun _ => hx) nofun
    · exact Connecting.inv_hsFail hc hu hk
    · exact Connecting.inv_hsFail hc hu hk
    · exact hinv
  -- the two key bytes
  · obtain ⟨hc, hu, hk⟩ := hinv.connecting_uart hr hp rfl rfl
    have hy := hinv.sync_ok (by rw [hp]; rfl)
    rcases h with ⟨_, rfl⟩ | ⟨_, _, rfl⟩ | ⟨_, _, rfl⟩
    · exact Connecting.inv_uart hc rfl rfl hu hk (fun _ => hy) nofun
    · exact Connecting.inv_hsFail hc hu hk
    · exact hinv
  · obtain ⟨hc, hu, hk⟩ := hinv.connecting_uart hr hp rfl rfl
    have hy := hinv.sync_ok (by rw [hp]; rfl)
    rcases h with ⟨_, rfl⟩ | ⟨_, _, rfl⟩ | ⟨_, _, rfl⟩
    · exact Connecting.inv_uart hc rfl rfl hu hk (fun _ => hy) nofun
    · exact Connecting.inv_hsFail hc hu hk
    · exact hinv
  -- the wait before `~k2`, its transmission and its echo, which is awaited only with `ACK_ECHO`
  · obtain ⟨hc, hu, hk⟩ := hinv.connecting_uart hr hp rfl rfl
    have hy := hinv.sync_ok (by rw [hp]; rfl)
    rcases h with ⟨_, rfl⟩ | ⟨_, rfl⟩
    · exact Connecting.inv_uart hc rfl rfl hu hk (fun _ => hy) nofun
    · exact hinv
  · obtain ⟨hc, hu, hk⟩ := hinv.connecting_uart hr hp rfl rfl
    have hy := hinv.sync_ok (by rw [hp]; rfl)
    rcases h with ⟨_, he, rfl⟩ | ⟨_, _, rfl⟩ | ⟨_, rfl⟩
    · exact Connecting.inv_uart hc rfl rfl hu hk (fun _ => hy) (fun _ => he)
    · exact Connecting.inv_uart hc rfl rfl hu hk (fun _ => hy) nofun
    · exact hinv
  · obtain ⟨hc, hu, hk⟩ := hinv.connecting_uart hr hp rfl rfl
    have hy := hinv.sync_ok (by rw [hp]; rfl)
    rcases h with ⟨_, _, rfl⟩ | ⟨_, _, rfl⟩ | ⟨_, _, rfl⟩ | ⟨_, _, rfl⟩
    · exact Connecting.inv_uart hc rfl rfl hu hk (fun _ => hy) nofun
    · exact Connecting.inv_hsFail hc hu hk
    · exact Connecting.inv_hsFail hc hu hk
    · exact hinv
  -- the wait before the final byte, and that byte
  · obtain ⟨hc, hu, hk⟩ := hinv.connecting_uart hr hp rfl rfl
    have hy := hinv.sync_ok (by rw [hp]; rfl)
    rcases h with ⟨_, rfl⟩ | ⟨_, rfl⟩
    · exact Connecting.inv_uart hc rfl rfl hu hk (fun _ => hy) nofun
    · exact hinv
  · obtain ⟨hc, hu, hk⟩ := hinv.connecting_uart hr hp rfl rfl
    rcases h with ⟨_, _, rfl⟩ | ⟨_, _, rfl⟩ | ⟨_, _, rfl⟩ | ⟨_, _, rfl⟩
    · exact AtRest.inv_idle ⟨nofun, fun _ => hu, fun _ => rfl, fun _ => hu, hk⟩ rfl rfl (resetHeld_of_released hr)
    · exact Connecting.inv_hsFail hc hu hk
    · exact Connecting.inv_hsFail hc hu hk
    · exact hinv

/-- SEND_CMD ends in Ready, or in Faulted with its result invalid as before (R190, R195). -/
theorem Exchanging.inv_end {s t : State} (h : Exchanging s) (hp : t.phase = .idle) (hb : t.busy = false)
    (hs : t.session = .ready ∨ (t.session = .faulted ∧ t.resValid = s.resValid)) (hl : t.lineMode = s.lineMode)
    (hk : t.kline = s.kline) (hr : t.rst = s.rst) : Inv t := by
  obtain ⟨_, _, _, hv, _, hu', hk', hr'⟩ := h
  have hu : t.lineMode = .uart := hl.trans hu'
  refine AtRest.inv_idle ⟨?_, fun _ => hu, fun hv => ?_, fun _ => hu, hk.trans hk'⟩ hp hb
    (resetHeld_of_released (hr.trans hr'))
  · rcases hs with hs | ⟨hs, _⟩ <;> simp [hs]
  · rcases hs with hs | ⟨_, hs⟩
    · exact hs
    · simp_all

/-- R103, R210: a response byte that passes its check is added to those that did. -/
theorem ResponseChecked.snoc {s : State} (h : ResponseChecked s) {y : Byte}
    (hi : s.locals.idx < 3 + s.n + s.e)
    (hc : responseCheck s.cfg s.pidBuf s.n s.e s.locals.idx y = none) :
    ResponseChecked { s with
      locals := { s.locals with idx := s.locals.idx + 1, received := s.locals.received ++ [y] } } := by
  obtain ⟨hlen, _, hall⟩ := h
  refine ⟨by simp [hlen], hi, fun i hlt => ?_⟩
  rcases Nat.lt_succ_iff_lt_or_eq.1 hlt with hlt | rfl
  · rw [List.getD_append _ _ _ _ (hlen ▸ hlt)]
    exact hall i hlt
  · simpa [hlen] using hc

theorem execSendCmd_inv {s t : State} (hinv : Inv s) (hr : s.rst = false) (hi : s.phase ≠ .idle)
    (hd : decode s.cmd = .command .sendCmd) (h : execSendCmd s = .next t) : Inv t := by
  have hb : s.busy = true := hinv.busy_iff.2 hi
  have order := execSendCmd_inOrder hinv.sending h
  have running (hp : s.phase.owner = some .sendCmd) := hinv.exchanging hp hr
  rcases execSendCmd_cases h with ⟨hp, h⟩ | ⟨hp, h⟩ | ⟨hp, h⟩ | ⟨hp, h⟩ | ⟨hp, h⟩ | ⟨hp, h⟩
  -- the first segment
  · rw [or_iff_right hi] at hp
    obtain ⟨hs, hu, _, ht, hk⟩ := hinv.atRest (by simp [hp, Phase.owner]) (by rw [hp]; rfl)
    rcases h with ⟨_, rfl⟩ | ⟨_, _, rfl⟩ | ⟨hready, hl, rfl⟩
    · exact AtRest.inv_idle ⟨hs, hu, nofun, ht, hk⟩ rfl rfl (resetHeld_of_released hr)
    · exact AtRest.inv_idle ⟨hs, hu, nofun, ht, hk⟩ rfl rfl (resetHeld_of_released hr)
    · exact Exchanging.inv ⟨hb, hd, hready, rfl, hl, hu hready, hk, hr⟩ rfl order nofun
  -- the gap and the spacing
  · have hx := running (by rw [hp]; rfl)
    rcases h with ⟨_, _, rfl⟩ | ⟨_, _, rfl⟩ | ⟨_, rfl⟩
    · exact hx.inv_end rfl rfl (.inr ⟨rfl, rfl⟩) rfl rfl rfl
    · exact Exchanging.inv hx rfl order nofun
    · exact hinv
  · have hx := running (by rw [hp]; rfl)
    rcases h with ⟨_, rfl⟩ | ⟨_, rfl⟩
    · exact Exchanging.inv hx rfl order nofun
    · exact hinv
  -- a request byte and its echo
  · have hx := running (by rw [hp]; rfl)
    rcases h with ⟨_, rfl⟩ | ⟨_, rfl⟩
    · exact Exchanging.inv hx rfl order nofun
    · exact hinv
  · have hx := running (by rw [hp]; rfl)
    have hs : s.session = .ready := (hinv.send_ready (by rw [hp]; rfl)).1
    rcases h with ⟨_, _, _, rfl⟩ | ⟨_, _, _, rfl⟩ | ⟨_, _, rfl⟩ | ⟨_, _, rfl⟩ | ⟨_, _, rfl⟩
    · exact Exchanging.inv hx rfl order nofun
    · exact Exchanging.inv hx rfl order fun _ => ⟨rfl, Nat.zero_le _, nofun⟩
    · exact hx.inv_end rfl rfl (.inl hs) rfl rfl rfl
    · exact hx.inv_end rfl rfl (.inl hs) rfl rfl rfl
    · exact hinv
  -- a response byte
  · have hx := running (by rw [hp]; rfl)
    have hs : s.session = .ready := (hinv.send_ready (by rw [hp]; rfl)).1
    rcases h with ⟨_, _, _, _, rfl⟩ | ⟨_, hlt, hc, rfl⟩ | ⟨_, _, _, _, rfl⟩ | ⟨_, _, _, rfl⟩ | ⟨_, _, rfl⟩
      | ⟨_, _, rfl⟩
    · exact hx.inv_end rfl rfl (.inl hs) rfl rfl rfl
    · exact Exchanging.inv hx rfl order fun _ => ResponseChecked.snoc (hinv.response hp) hlt hc
    · exact hx.inv_end rfl rfl (.inl hs) rfl rfl rfl
    · exact hx.inv_end rfl rfl (.inl hs) rfl rfl rfl
    · exact hx.inv_end rfl rfl (.inl hs) rfl rfl rfl
    · exact hinv

/-- The word in `CMD` has no hold point (NOP, DISCONNECT, an illegal word): no command is past its start. -/
theorem Inv.atRest_of_no_hold {s : State} (h : Inv s)
    (hn : ∀ i p, decode s.cmd = .command i → Phase.owner p ≠ some i) : AtRest s := by
  have ho : s.phase.owner = none := Option.eq_none_iff_forall_ne_some.2 fun i ho => hn i _ (h.owner i ho) ho
  exact h.atRest (by simp [ho]) (by revert ho; cases s.phase <;> decide)

/-- Every engine step keeps the invariant (R122, R131). -/
theorem engineStep_inv {s t : State} (hinv : Inv s) (hr : s.rst = false) (hi : s.phase ≠ .idle)
    (h : engineStep s = .next t) : Inv t := by
  have no_hold : ∀ p : Phase, p.owner ≠ some .nop ∧ p.owner ≠ some .disconnect := by
    intro p; cases p <;> decide
  rcases engineStep_cases h with ⟨i, hd, h⟩ | ⟨why, hd, rfl⟩
  · cases i with
    | nop =>
      cases h
      have rest := hinv.atRest_of_no_hold fun i p e => by cases hd.symm.trans e; exact (no_hold p).1
      exact AtRest.inv_idle rest rfl rfl (resetHeld_of_released hr)
    | wakeup => exact execWakeup_inv hinv hr hi hd h
    | transmit => exact execTransmit_inv hinv hr hi hd h
    | receive => exact execReceive_inv hinv hr hi hd h
    | connect => exact execConnect_inv hinv hr hi hd h
    | sendCmd => exact execSendCmd_inv hinv hr hi hd h
    | disconnect =>
      cases h
      obtain ⟨_, _, _, ht, hk⟩ :=
        hinv.atRest_of_no_hold fun i p e => by cases hd.symm.trans e; exact (no_hold p).2
      exact AtRest.inv_idle ⟨nofun, nofun, nofun, ht, hk⟩ rfl rfl (resetHeld_of_released hr)
  · have rest := hinv.atRest_of_no_hold fun i p e => by cases hd.symm.trans e
    exact AtRest.inv_idle rest rfl rfl (resetHeld_of_released hr)

/-! ### The other agents keep the invariant -/

/-- The invariant says nothing of the agents' coming moves (log 2). -/
theorem Inv.withMoves {s : State} (h : Inv s) (l : List Event) (n : Nat) :
    Inv { s with script := l, draws := n } :=
  { h with reset_held := fun hr => congrArg (fun u => { u with script := l, draws := n }) (h.reset_held hr) }

theorem Inv.popEvent {s : State} (h : Inv s) : Inv (popEvent s) := by
  rw [popEvent_eq]
  exact h.withMoves _ _

theorem Inv.moveInReset {s : State} (h : Inv s) (e : Event) : Inv (moveInReset e s) := by
  cases e
  case rstRelease => exact { h with reset_held := nofun }
  all_goals exact h

/-- The Serializer empties the transmit buffer and leaves the outgoing stream (R165). -/
theorem Inv.serialize {s : State} (h : Inv s) (hr : s.rst = false) : Inv (serialize s) := by
  have order : (Machine.serialize s).sending.InOrder := sending_serialize s ▸ h.sending
  unfold Machine.serialize at order ⊢
  split at order <;> rename_i hc
  · rw [if_pos hc]
    exact { h with
      tx_uart := nofun, frame := order.frame, request_idx := order.index, sent := order.sent,
      reset_held := resetHeld_of_released hr }
  · rwa [if_neg hc]

/-- No delivery empties the receive buffer (R164, R166). -/
theorem Inv.deliver {s : State} (h : Inv s) (hr : s.rst = false) (x : Byte) : Inv (deliver x s) := by
  have full (hf : s.rxFull = true) : (Machine.deliver x s).rxFull = true := by
    rcases deliver_lineFlags x s with e | ⟨_, e⟩
    · exact (congrArg LineFlags.rxFull e).trans hf
    · exact congrArg LineFlags.rxFull e
  rw [deliver_eq]
  exact { h with
    accepted_byte := fun hp ha => full (h.accepted_byte hp ha), reset_held := resetHeld_of_released hr }

/-- A host write while a command runs is lost; between two commands it stores an operand or accepts the next. -/
theorem Inv.writeReg {s : State} (h : Inv s) (hr : s.rst = false) (r : Reg) (v : Word) :
    Inv (writeReg r v s) := by
  have idle (hb : s.busy = false) : s.phase = .idle := by simpa [hb] using h.busy_iff
  have rest (hb : s.busy = false) : AtRest s := h.atRest (by simp [idle hb, Phase.owner]) (by rw [idle hb]; rfl)
  rcases writeReg_cases r v s with ⟨_, e⟩ | ⟨hb, _, e⟩ | ⟨hb, _, e⟩ | ⟨hb, _, e⟩ | ⟨hb, _, e⟩ | ⟨_, e⟩ <;> rw [e]
  · exact h
  · exact AtRest.inv (rest hb) (by simp) (by simp) (by simp [Phase.owner]) (fun _ ha => ha) (resetHeld_of_released hr)
  · exact AtRest.inv_idle (rest hb) (idle hb) hb (resetHeld_of_released hr)
  · exact AtRest.inv_idle (rest hb) (idle hb) hb (resetHeld_of_released hr)
  · exact AtRest.inv_idle (rest hb) (idle hb) hb (resetHeld_of_released hr)
  · exact h

/-- Settles O51: the reset state is between two commands. -/
theorem resetMeetsTheInvariant : Obligations.ResetMeetsTheInvariant :=
  AtRest.inv_idle ⟨nofun, nofun, nofun, nofun, rfl⟩ rfl rfl fun _ => rfl

/-- Settles O50: an engine step by `engineStep_inv`, every other step by its agent's lemma. -/
theorem everyStepKeepsTheInvariant : Obligations.EveryStepKeepsTheInvariant := by
  intro s t hinv h
  have active (hm : engineMoves s = true) : s.rst = false ∧ s.phase ≠ .idle :=
    ⟨((engineMoves_iff s).1 hm).1, hinv.busy_iff.1 (busy_of_engineMoves hm)⟩
  rcases step_cases h with ⟨_, rfl⟩ | ⟨hm, _, h⟩ | ⟨hm, _, h⟩ | ⟨_, _, _, rfl⟩ | ⟨hr, _, _, rfl⟩ | ⟨hr, _, rfl⟩
    | ⟨hr, x, _, rfl⟩ | ⟨hr, a, _, _, rfl⟩ | ⟨hr, a, v, _, _, rfl⟩ | ⟨_, _, rfl⟩ | ⟨_, _, rfl⟩
  -- a move under `rst`
  · exact hinv.popEvent.moveInReset _
  -- the engine runs a segment, at its own move or before a waiting tick
  · exact engineStep_inv hinv.popEvent (by simpa using (active hm).1) (by simpa using (active hm).2) h
  · exact engineStep_inv hinv (active hm).1 (active hm).2 h
  -- the engine has no step; a tick
  · exact hinv.popEvent
  · exact { hinv.popEvent with reset_held := resetHeld_of_released (by simpa using hr) }
  -- the Serializer; a delivery; a host read; a host write
  · exact hinv.popEvent.serialize (by simpa using hr)
  · exact hinv.popEvent.deliver (by simpa using hr) x
  · exact { hinv.popEvent with reset_held := resetHeld_of_released (by simpa using hr) }
  · exact hinv.popEvent.writeReg (by simpa using hr) _ v
  -- `rst` is asserted or released
  · exact AtRest.inv_idle ⟨nofun, nofun, nofun, nofun, rfl⟩ rfl rfl fun _ => rfl
  · exact hinv.popEvent
end Sys2Proof.Machine

/-! ## Whole-machine rules: what each agent's move leaves unchanged (10_state.md, 20_memory.md, 40_control.md) -/

namespace Sys2Proof.Machine

/-! ### The engine's step (R122) -/

/-- Settles O13: where the engine moves, the step is that of `beforeSegment`, which runs the command in `CMD`. -/
theorem stepRunsTheDecodedCommand : Obligations.StepRunsTheDecodedCommand := fun _ _ hm hd =>
  (step_of_engineMoves hm).trans (engineStep_of_command (by simpa using hd))

/-- R122: a running command stands at its start or at a hold point of its own, so its segment answers. -/
theorem engineStep_answers {s : State} (hinv : Inv s) (hi : s.phase ≠ .idle) : ∃ t, engineStep s = .next t := by
  cases hd : decode s.cmd with
  | illegal why => exact ⟨_, engineStep_of_illegal hd⟩
  | command i =>
    rw [engineStep_of_command hd]
    refine exec_answers ?_
    cases ho : s.phase.owner with
    | none => exact .inl (by revert hi ho; cases s.phase <;> simp [Phase.owner])
    | some j => cases hd.symm.trans (hinv.owner j ho); exact .inr rfl

/-! ### Stops (R61, R65) -/

/-- R270: a step while `rst` is asserted. -/
theorem step_of_rst {s : State} (h : s.rst = true) : step s = .next (moveInReset (nextEvent s) (popEvent s)) :=
  if_pos h

/-- A host access answers, or is refused because it is outside the contract. -/
theorem onAccess_outcome (a : Word) (k : Reg → State) :
    (∃ t, onAccess a k = .next t)
      ∨ (accessWellFormed a = false
        ∧ (onAccess a k = .refused .misalignedAccess ∨ onAccess a k = .refused .offsetOutsideSpace)) := by
  rcases onAccess_cases a k with ⟨h, e⟩ | ⟨_, h, e⟩ | ⟨_, _, e⟩
  · exact .inr ⟨by simp [accessWellFormed, h], .inr e⟩
  · exact .inr ⟨by simp [accessWellFormed, h], .inl e⟩
  · exact .inl ⟨_, e⟩

/-- Under the invariant every step answers, or is the refusal of a host access outside the contract. -/
theorem step_outcome {s : State} (hinv : Inv s) :
    (∃ t, step s = .next t)
      ∨ ((nextEvent s).wellFormed = false
        ∧ (step s = .refused .misalignedAccess ∨ step s = .refused .offsetOutsideSpace)) := by
  rcases Bool.eq_false_or_eq_true s.rst with hr | hr
  · exact .inl ⟨_, step_of_rst hr⟩
  by_cases hm : engineMoves s = true
  · rw [step_of_engineMoves hm]
    have hi : s.phase ≠ .idle := hinv.busy_iff.1 (busy_of_engineMoves hm)
    unfold beforeSegment
    split
    · exact .inl (engineStep_answers hinv.popEvent (by simpa using hi))
    · exact .inl (engineStep_answers hinv hi)
  · have idle (hn : nextEvent s = .engine ∨ nextEvent s = .tick) : engineEnabled s = false :=
      Bool.eq_false_iff.2 fun he => hm ((engineMoves_iff s).2 ⟨hr, he, hn⟩)
    rw [step]
    cases hn : nextEvent s with
    | engine => exact .inl ⟨popEvent s, by simp [move, hr, idle (.inl hn)]⟩
    | tick => exact .inl ⟨tick (popEvent s), by simp [move, hr, idle (.inr hn)]⟩
    | hostRead a => rw [move, if_neg (by simp [hr])]; exact onAccess_outcome a _
    | hostWrite a v => rw [move, if_neg (by simp [hr])]; exact onAccess_outcome a _
    | serialize | deliver | rstAssert | rstRelease => rw [move, if_neg (by simp [hr])]; exact .inl ⟨_, rfl⟩

/-- Settles O53: by `step_outcome` a step that is no next state is a refusal of a malformed access. -/
theorem noStepStopsButAnAccessOutsideTheContract :
    Obligations.NoStepStopsButAnAccessOutsideTheContract := by
  intro s hinv
  rcases step_outcome hinv with ⟨t, e⟩ | ⟨hw, e⟩
  · exact ⟨by simp [e], by simp [e], fun _ => ⟨t, e⟩⟩
  · refine ⟨fun f h => ?_, fun r h => ⟨hw, ?_⟩, fun h => absurd (hw.symm.trans h) Bool.false_ne_true⟩
    · rcases e with e | e <;> cases e.symm.trans h
    · rcases e with e | e <;> cases e.symm.trans h
      exacts [.inl rfl, .inr rfl]

/-- Settles O11: both checks are `onAccess`'s, at a read and at a write. -/
theorem hostAccessOutsideTheContractIsRefused : Obligations.HostAccessOutsideTheContractIsRefused := by
  intro s a v hr he
  have access : ∃ k, step s = onAccess a k := by
    rcases he with he | he <;> rw [step, he, move, if_neg (by simp [hr])] <;> exact ⟨_, rfl⟩
  obtain ⟨k, e⟩ := access
  rw [e]
  rcases onAccess_cases a k with ⟨h, e⟩ | ⟨h, _, e⟩ | ⟨h, h4, _⟩
  · exact ⟨fun _ => e, fun _ => by omega⟩
  · exact ⟨fun _ => by omega, fun _ _ => e⟩
  · exact ⟨fun _ => by omega, fun _ h => absurd h4 h⟩

/-! ### The parameters (R275) -/

/-- Settles O54: the engine's segments by `SegmentFrame`; no other agent writes a parameter. -/
theorem parametersNeverChange : Obligations.ParametersNeverChange := by
  intro s t h
  rcases step_cases h with ⟨_, rfl⟩ | ⟨_, _, h⟩ | ⟨_, _, h⟩ | ⟨_, _, _, rfl⟩ | ⟨_, _, _, rfl⟩ | ⟨_, _, rfl⟩
    | ⟨_, x, _, rfl⟩ | ⟨_, a, _, _, rfl⟩ | ⟨_, a, v, _, _, rfl⟩ | ⟨_, _, rfl⟩ | ⟨_, _, rfl⟩
  -- a move under `rst`
  · exact (congrArg State.cfg (moveInReset_eq _ _)).trans (popEvent_cfg s)
  -- the engine runs a segment, at its own move or before a waiting tick
  · exact (engineStep_segmentFrame h).cfg.trans (popEvent_cfg s)
  · exact (engineStep_segmentFrame h).cfg
  -- the engine has no step; a tick
  · exact popEvent_cfg s
  · exact popEvent_cfg s
  -- the Serializer; a delivery; a host read; a host write
  · exact (congrArg State.cfg (serialize_eq _)).trans (popEvent_cfg s)
  · exact (congrArg State.cfg (deliver_eq x _)).trans (popEvent_cfg s)
  · exact popEvent_cfg s
  · exact (congrArg State.cfg (writeReg_eq _ v _)).trans (popEvent_cfg s)
  -- `rst` is asserted or released
  · exact popEvent_cfg s
  · exact popEvent_cfg s

/-! ### `RX_OVERRUN` (R25, R167) -/

theorem deliver_rxOverrun (x : Byte) (s : State) :
    (deliver x s).rxOverrun = s.rxOverrun
      ∨ ((deliver x s).rxOverrun = true ∧ s.rxFull = true ∧ s.lineMode = .uart) := by
  cases hl : s.lineMode with
  | gpio => exact .inl (by rw [deliver_of_gpio x hl])
  | uart =>
    cases hf : s.rxFull with
    | false => exact .inl (by rw [deliver_of_empty x hl hf])
    | true =>
      rw [deliver_of_full x hl hf]
      cases hc : s.cfg.overrunPolicy with
      | dropNew => exact .inr ⟨by rw [overrun_of_dropNew x hc], rfl, rfl⟩
      | dropOld => exact .inr ⟨by rw [overrun_of_dropOld x hc], rfl, rfl⟩

theorem writeReg_rxOverrun (r : Reg) (v : Word) (s : State) :
    (writeReg r v s).rxOverrun = s.rxOverrun
      ∨ ((writeReg r v s).rxOverrun = false ∧ s.busy = false ∧ (writeReg r v s).cmd = v) := by
  rcases writeReg_cases r v s with ⟨_, e⟩ | ⟨hb, _, e⟩ | ⟨_, _, e⟩ | ⟨_, _, e⟩ | ⟨_, _, e⟩ | ⟨_, e⟩ <;> rw [e]
  · exact .inl rfl
  · exact .inr ⟨rfl, hb, rfl⟩
  all_goals exact .inl rfl

/-- Settles O32: a segment keeps the flag by `SegmentFrame`; only a delivery, an acceptance and reset write it. -/
theorem overrunFlagIsStickyUntilAccept : Obligations.OverrunFlagIsStickyUntilAccept := by
  intro s t h hne
  rcases step_cases h with ⟨_, rfl⟩ | ⟨_, _, h⟩ | ⟨_, _, h⟩ | ⟨_, _, _, rfl⟩ | ⟨_, _, _, rfl⟩ | ⟨_, _, rfl⟩
    | ⟨hr, x, he, rfl⟩ | ⟨_, a, _, _, rfl⟩ | ⟨hr, a, v, he, _, rfl⟩ | ⟨hr, he, rfl⟩ | ⟨_, _, rfl⟩
  -- a move under `rst`
  · exact absurd ((congrArg State.rxOverrun (moveInReset_eq _ _)).trans (popEvent_rxOverrun s)) hne
  -- the engine runs a segment, at its own move or before a waiting tick
  · exact absurd ((engineStep_segmentFrame h).rxOverrun.trans (popEvent_rxOverrun s)) hne
  · exact absurd (engineStep_segmentFrame h).rxOverrun hne
  -- the engine has no step; a tick
  · exact absurd (popEvent_rxOverrun s) hne
  · exact absurd (popEvent_rxOverrun s) hne
  -- the Serializer; a delivery; a host read; a host write
  · exact absurd ((congrArg State.rxOverrun (serialize_eq _)).trans (popEvent_rxOverrun s)) hne
  · have ho := deliver_rxOverrun x (popEvent s)
    rw [popEvent_rxOverrun, popEvent_rxFull, popEvent_lineMode] at ho
    obtain ⟨ht, hf, hl⟩ := ho.resolve_left hne
    exact .inl ⟨ht, hf, hl, hr, x, he⟩
  · exact absurd (popEvent_rxOverrun s) hne
  · have ho := writeReg_rxOverrun (regAt a) v (popEvent s)
    rw [popEvent_rxOverrun, popEvent_busy] at ho
    obtain ⟨ht, hb, hc⟩ := ho.resolve_left hne
    exact .inr (.inl ⟨ht, hr, hb, a, v, he, hc⟩)
  -- `rst` is asserted or released
  · exact .inr (.inr ⟨rfl, hr, he⟩)
  · exact absurd (popEvent_rxOverrun s) hne

/-! ### Reset (R270) -/

/-- Settles O49: the assertion writes the literal `State.reset`; a move under `rst` is `moveInReset`. -/
theorem resetAbandonsEverything : Obligations.ResetAbandonsEverything := by
  refine ⟨fun s hr he => ⟨assertReset (popEvent s), by simp [step, move, hr, he], rfl, rfl⟩, fun s hr he => ?_,
    fun s a v hr he => ?_, fun s he => ?_⟩
  · rw [step_of_rst hr]
    rcases he with he | he | he | ⟨x, he⟩ <;> rw [he] <;> rfl
  · rw [step_of_rst hr]
    rcases he with he | he | he <;> rw [he] <;> rfl
  · cases hr : s.rst with
    | true => rw [step_of_rst hr, he]; rfl
    | false => rw [step, he, move, if_neg (by simp [hr]), popEvent_eq, ← hr]
end Sys2Proof.Machine

/-! ## Frames: what a command leaves unchanged, segment by segment (40_control.md to 44_frame_codec.md) -/

namespace Sys2Proof.Machine

/-! ### SEND_CMD -/

/-- Settles O46: the frame of every segment is `SegmentFrame`, the session's is `execSendCmd_session`; the rest hold
point by hold point. -/
theorem sendCmdFrame : Obligations.SendCmdFrame := by
  intro s t h
  have f : SegmentFrame s t := exec_segmentFrame h
  have session : t.session = s.session ∨ (s.phase = .sendGap ∧ t.session = .faulted) :=
    (execSendCmd_session h).imp_right fun ⟨hp, _, e⟩ => ⟨hp, by rw [e]; rfl⟩
  have busy : t.busy = s.busy ∨ t.busy = false := f.ends.imp_right And.left
  simp only [f.cfg, f.cmd, f.rxOverrun, f.txData, f.cmdLen, f.expLen, f.pidBuf, f.now, f.rxReg, f.rst, f.wireTx,
    f.busData, f.script, f.draws, f.rxAtAccept, session, busy, true_and]
  rcases execSendCmd_cases h with ⟨hp, h⟩ | ⟨hp, h⟩ | ⟨hp, h⟩ | ⟨hp, h⟩ | ⟨hp, h⟩ | ⟨hp, h⟩
  -- the first segment, the gap and the spacing
  · rcases h with ⟨_, rfl⟩ | ⟨_, _, rfl⟩ | ⟨_, _, rfl⟩ <;> rcases hp with hp | hp <;> simp [hp]
  · rcases h with ⟨_, _, rfl⟩ | ⟨_, _, rfl⟩ | ⟨_, rfl⟩ <;> simp
  · rcases h with ⟨_, rfl⟩ | ⟨_, rfl⟩ <;> simp
  -- a request byte and its echo
  · rcases h with ⟨_, rfl⟩ | ⟨_, rfl⟩ <;> simp [hp]
  · rcases h with ⟨_, _, _, rfl⟩ | ⟨_, _, _, rfl⟩ | ⟨_, _, rfl⟩ | ⟨_, _, rfl⟩ | ⟨_, _, rfl⟩ <;> simp [hp]
  -- a response byte
  · rcases h with ⟨_, _, _, _, rfl⟩ | ⟨_, _, _, rfl⟩ | ⟨_, _, _, _, rfl⟩ | ⟨_, _, _, rfl⟩ | ⟨_, _, rfl⟩
      | ⟨_, _, rfl⟩ <;> simp [hp, commitResults]

/-! ### CONNECT -/

/-- Settles O47: the frame of every segment is `SegmentFrame`; the rest hold point by hold point. -/
theorem connectFrame : Obligations.ConnectFrame := by
  intro s t h
  have f : SegmentFrame s t := exec_segmentFrame h
  have busy : t.busy = s.busy ∨ t.busy = false := f.ends.imp_right And.left
  simp only [f.cfg, f.cmd, f.rxOverrun, f.txData, f.cmdLen, f.expLen, f.pidBuf, f.now, f.rxReg, f.rst, f.wireTx,
    f.busData, f.script, f.draws, f.rxAtAccept, busy, true_and]
  rcases execConnect_cases h with ⟨hp, h⟩ | ⟨hp, h⟩ | ⟨hp, h⟩ | ⟨hp, h⟩ | ⟨hp, h⟩ | ⟨hp, h⟩ | ⟨hp, h⟩ | ⟨hp, h⟩
    | ⟨hp, h⟩ | ⟨hp, h⟩ | ⟨hp, h⟩
  -- the first segment
  · rcases h with ⟨_, rfl⟩ | ⟨_, rfl⟩ <;> simp
  -- the idle wait and the cells
  · rcases h with ⟨_, rfl⟩ | ⟨_, rfl⟩ <;> simp
  · rcases h with ⟨_, ⟨_, rfl⟩ | ⟨_, rfl⟩⟩ | ⟨_, rfl⟩ <;> simp
  -- the sync byte and the two key bytes
  · rcases h with ⟨_, _, rfl⟩ | ⟨_, _, rfl⟩ | ⟨_, _, rfl⟩ | ⟨_, _, rfl⟩ <;> simp [hp]
  · rcases h with ⟨_, rfl⟩ | ⟨_, _, rfl⟩ | ⟨_, _, rfl⟩ <;> simp [hp]
  · rcases h with ⟨_, rfl⟩ | ⟨_, _, rfl⟩ | ⟨_, _, rfl⟩ <;> simp [hp]
  -- the wait before `~k2`, its transmission and its echo
  · rcases h with ⟨_, rfl⟩ | ⟨_, rfl⟩ <;> simp
  · rcases h with ⟨_, _, rfl⟩ | ⟨_, _, rfl⟩ | ⟨_, rfl⟩ <;> simp [hp]
  · rcases h with ⟨_, _, rfl⟩ | ⟨_, _, rfl⟩ | ⟨_, _, rfl⟩ | ⟨_, _, rfl⟩ <;> simp
  -- the wait before the final byte, and that byte
  · rcases h with ⟨_, rfl⟩ | ⟨_, rfl⟩ <;> simp
  · rcases h with ⟨_, _, rfl⟩ | ⟨_, _, rfl⟩ | ⟨_, _, rfl⟩ | ⟨_, _, rfl⟩ <;> simp [hp]

/-! ### NOP, WAKEUP, TRANSMIT, RECEIVE and DISCONNECT -/

/-- Settles O48: the frame of every segment is `SegmentFrame`; the rest command by command. -/
theorem shortCommandsFrame : Obligations.ShortCommandsFrame := by
  intro i s t hc hs h
  have f : SegmentFrame s t := exec_segmentFrame h
  simp only [f.cfg, f.cmd, f.rxOverrun, f.txData, f.cmdLen, f.expLen, f.pidBuf, f.now, f.rxReg, f.rst, f.wireTx,
    f.busData, f.script, f.draws, f.rxAtAccept, true_and]
  cases i with
  | nop => cases h; simp
  | wakeup =>
    rcases execWakeup_cases h with ⟨_, ⟨_, rfl⟩ | ⟨_, _, rfl⟩⟩ | ⟨_, _, ⟨_, rfl⟩ | ⟨_, rfl⟩⟩ | ⟨_, _, rfl⟩ <;> simp
  | transmit =>
    rcases execTransmit_cases h with ⟨_, ⟨_, rfl⟩ | ⟨_, rfl⟩⟩ | ⟨_, _, rfl⟩ | ⟨_, _, rfl⟩ <;> simp
  | receive =>
    rcases execReceive_cases h with ⟨_, ⟨_, _, _, rfl⟩ | ⟨_, _, rfl⟩ | ⟨_, rfl⟩⟩ | ⟨_, _, rfl⟩ | ⟨_, _, _, rfl⟩
      | ⟨_, _, _, rfl⟩ <;> simp
  | connect => exact absurd rfl hc
  | sendCmd => exact absurd rfl hs
  | disconnect => cases h; simp
end Sys2Proof.Machine

/-! ## The results: which steps change them (20_memory.md section 4, 43_session.md, 44_frame_codec.md) -/

namespace Sys2Proof.Machine

/-! ### Moves of the other agents -/

/-- The fields that the engine alone writes, reset aside (R70): the error, `KEYS`, `RXDATA`, `RXCSUM`, `RESBUF` and
its validity, the times, the session, the line and `tx_reg`. -/
structure Outcome where
  err : ErrorKind × Byte × Byte
  keys : Byte × Byte × Byte
  rxData : Byte
  csum : Byte × Byte
  resBuf : Buf8
  resValid : Bool
  lastOk : Word
  tCmdEnd : Word
  session : Session
  line : LineMode × Bool
  txReg : Byte

def State.outcome (s : State) : Outcome :=
  ⟨(s.errKind, s.errByte, s.errPos), (s.keySync, s.key1, s.key2), s.rxData, (s.csumReceived, s.csumComputed),
    s.resBuf, s.resValid, s.lastOk, s.tCmdEnd, s.session, (s.lineMode, s.kline), s.txReg⟩

theorem outcome_popEvent (s : State) : (popEvent s).outcome = s.outcome :=
  (congrArg State.outcome (popEvent_eq s)).trans rfl

/-- `t` has `BUSY` as `s` has it, or the step to `t` accepts the command that the host writes (R67, R121). -/
def BusyOrAccepts (s t : State) : Prop :=
  t.busy = s.busy
    ∨ (s.rst = false ∧ s.busy = false ∧ ∃ a v, nextEvent s = .hostWrite a v ∧ t.cmd = v ∧ t.phase = .start)

theorem writeReg_busy (r : Reg) (v : Word) (s : State) :
    (writeReg r v s).busy = s.busy
      ∨ (s.busy = false ∧ (writeReg r v s).cmd = v ∧ (writeReg r v s).phase = .start) := by
  rcases writeReg_cases r v s with ⟨_, e⟩ | ⟨hb, _, e⟩ | ⟨_, _, e⟩ | ⟨_, _, e⟩ | ⟨_, _, e⟩ | ⟨_, e⟩ <;> rw [e]
  · exact .inl rfl
  · exact .inr ⟨hb, rfl, rfl⟩
  all_goals exact .inl rfl

/-- R70: an agent beside the engine, reset aside, changes no result, and `BUSY` only by accepting a command. -/
theorem step_outcome_of_not_engineMoves {s t : State} (hm : engineMoves s ≠ true)
    (hn : nextEvent s ≠ .rstAssert) (h : step s = .next t) : t.outcome = s.outcome ∧ BusyOrAccepts s t := by
  rcases step_cases h with ⟨_, rfl⟩ | ⟨hm', _⟩ | ⟨hm', _⟩ | ⟨_, _, _, rfl⟩ | ⟨_, _, _, rfl⟩ | ⟨_, _, rfl⟩
    | ⟨_, x, _, rfl⟩ | ⟨_, a, _, _, rfl⟩ | ⟨hr, a, v, he, _, rfl⟩ | ⟨_, he, _⟩ | ⟨_, _, rfl⟩
  -- a move under `rst`
  · rw [moveInReset_eq]; exact ⟨outcome_popEvent s, .inl (popEvent_busy s)⟩
  -- the engine runs a segment: set aside
  · exact absurd hm' hm
  · exact absurd hm' hm
  -- the engine has no step; a tick
  · exact ⟨outcome_popEvent s, .inl (popEvent_busy s)⟩
  · exact ⟨outcome_popEvent s, .inl (popEvent_busy s)⟩
  -- the Serializer; a delivery; a host read; a host write
  · rw [serialize_eq]; exact ⟨outcome_popEvent s, .inl (popEvent_busy s)⟩
  · rw [deliver_eq]; exact ⟨outcome_popEvent s, .inl (popEvent_busy s)⟩
  · exact ⟨outcome_popEvent s, .inl (popEvent_busy s)⟩
  · refine ⟨(congrArg State.outcome (writeReg_eq _ v _)).trans (outcome_popEvent s), ?_⟩
    have hb := writeReg_busy (regAt a) v (popEvent s)
    rw [popEvent_busy] at hb
    exact hb.imp_right fun ⟨hb, hc, hp⟩ => ⟨hr, hb, a, v, he, hc, hp⟩
  -- `rst` is asserted, which is set aside, or released
  · exact absurd he hn
  · exact ⟨outcome_popEvent s, .inl (popEvent_busy s)⟩

/-- Settles O59: with no command running the engine has no step, and the others are those of
`step_outcome_of_not_engineMoves`. -/
theorem resultsStandWhileIdle : Obligations.ResultsStandWhileIdle := by
  intro s t _ hb hn h
  have hm : engineMoves s ≠ true := fun hm => absurd (hb.symm.trans (busy_of_engineMoves hm)) Bool.false_ne_true
  obtain ⟨results, busy⟩ := step_outcome_of_not_engineMoves hm hn h
  simp only [State.outcome, Outcome.mk.injEq, Prod.mk.injEq, and_assoc] at results
  simp only [results, true_and]
  intro ht
  rcases busy with e | ⟨hr, _, accepts⟩
  · exact absurd (hb.symm.trans (e.symm.trans ht)) Bool.false_ne_true
  · exact ⟨hr, accepts⟩

/-! ### The engine's segments -/

/-- A step in which the engine moves is an illegal word's end or one segment of the command in `CMD`, run on a state
with the agents' coming moves changed at most (R122, R131). -/
theorem step_segment {s t : State} (hm : engineMoves s = true) (h : step s = .next t) :
    ∃ l n, (∃ i, decode s.cmd = .command i ∧ exec i { s with script := l, draws := n } = .next t)
      ∨ (∃ why, decode s.cmd = .illegal why ∧ t = illegalCommand { s with script := l, draws := n }) := by
  rw [step_of_engineMoves hm, beforeSegment_eq] at h
  exact ⟨(beforeSegment s).script, (beforeSegment s).draws, engineStep_cases h⟩

/-- NOP, WAKEUP, TRANSMIT, RECEIVE and DISCONNECT change neither `KEYS` nor a result, but that DISCONNECT makes the
result invalid. -/
theorem exec_short_results {i : Instr} {s t : State} (hc : i ≠ .connect) (hs : i ≠ .sendCmd)
    (h : exec i s = .next t) :
    t.keySync = s.keySync ∧ t.key1 = s.key1 ∧ t.key2 = s.key2 ∧ t.resBuf = s.resBuf ∧ t.lastOk = s.lastOk
      ∧ (t.resValid = true → s.resValid = true) := by
  have f := shortCommandsFrame i s t hc hs h
  by_cases hd : i = .disconnect
  · subst hd; cases h; simp
  · simp [f, hd]

/-- R184: a byte of `KEYS` is the byte taken at its own hold point. -/
theorem execConnect_keys {s t : State} (h : execConnect s = .next t) :
    (t.keySync = s.keySync ∨ (s.phase = .connectSync ∧ t.keySync = s.rxReg))
      ∧ (t.key1 = s.key1 ∨ (s.phase = .connectKey1 ∧ t.key1 = s.rxReg))
      ∧ (t.key2 = s.key2 ∨ (s.phase = .connectKey2 ∧ t.key2 = s.rxReg)) := by
  rcases execConnect_cases h with ⟨_, h⟩ | ⟨_, h⟩ | ⟨_, h⟩ | ⟨hp, h⟩ | ⟨hp, h⟩ | ⟨hp, h⟩ | ⟨_, h⟩ | ⟨_, h⟩
    | ⟨_, h⟩ | ⟨_, h⟩ | ⟨_, h⟩
  -- the first segment, the idle wait and the cells
  · rcases h with ⟨_, rfl⟩ | ⟨_, rfl⟩ <;> simp
  · rcases h with ⟨_, rfl⟩ | ⟨_, rfl⟩ <;> simp
  · rcases h with ⟨_, ⟨_, rfl⟩ | ⟨_, rfl⟩⟩ | ⟨_, rfl⟩ <;> simp
  -- the sync byte and the two key bytes
  · rcases h with ⟨_, _, rfl⟩ | ⟨_, _, rfl⟩ | ⟨_, _, rfl⟩ | ⟨_, _, rfl⟩ <;> simp [hp]
  · rcases h with ⟨_, rfl⟩ | ⟨_, _, rfl⟩ | ⟨_, _, rfl⟩ <;> simp [hp]
  · rcases h with ⟨_, rfl⟩ | ⟨_, _, rfl⟩ | ⟨_, _, rfl⟩ <;> simp [hp]
  -- steps 5 and 6
  · rcases h with ⟨_, rfl⟩ | ⟨_, rfl⟩ <;> simp
  · rcases h with ⟨_, _, rfl⟩ | ⟨_, _, rfl⟩ | ⟨_, rfl⟩ <;> simp
  · rcases h with ⟨_, _, rfl⟩ | ⟨_, _, rfl⟩ | ⟨_, _, rfl⟩ | ⟨_, _, rfl⟩ <;> simp
  · rcases h with ⟨_, rfl⟩ | ⟨_, rfl⟩ <;> simp
  · rcases h with ⟨_, _, rfl⟩ | ⟨_, _, rfl⟩ | ⟨_, _, rfl⟩ | ⟨_, _, rfl⟩ <;> simp

/-- Settles O60: in an engine step by `execConnect_keys`; the other commands and the other agents keep `KEYS`. -/
theorem keysChangeOnlyAsTheirBytesArrive : Obligations.KeysChangeOnlyAsTheirBytesArrive := by
  intro s t hinv h hn
  by_cases hm : engineMoves s = true
  · obtain ⟨l, n, ⟨i, hd, h⟩ | ⟨_, _, rfl⟩⟩ := step_segment hm h
    · by_cases hc : i = .connect
      · subst hc
        obtain ⟨sync, key1, key2⟩ := execConnect_keys h
        exact ⟨fun hne => ⟨hm, sync.resolve_left hne⟩, fun hne => ⟨hm, key1.resolve_left hne⟩,
          fun hne => ⟨hm, key2.resolve_left hne⟩⟩
      · have keys : t.keySync = s.keySync ∧ t.key1 = s.key1 ∧ t.key2 = s.key2 := by
          by_cases hs : i = .sendCmd
          · subst hs
            have f := sendCmdFrame _ t h
            simp [f]
          · obtain ⟨sync, key1, key2, _⟩ := exec_short_results hc hs h
            exact ⟨sync, key1, key2⟩
        simp [keys]
    · exact ⟨fun hne => absurd rfl hne, fun hne => absurd rfl hne, fun hne => absurd rfl hne⟩
  · have results := (step_outcome_of_not_engineMoves hm hn h).1
    simp only [State.outcome, Outcome.mk.injEq, Prod.mk.injEq] at results
    simp [results]

/-! ### SEND_CMD's result (R220) -/

/-- What SEND_CMD makes of the result at its success (R220): `RESBUF`'s first `e` bytes, its validity and both
times, with no error. -/
def Committed (s t : State) : Prop :=
  s.phase = .sendResp ∧ t.busy = false ∧ t.errKind = .none ∧ t.session = s.session ∧ t.resValid = true
    ∧ t.lastOk = s.now ∧ t.tCmdEnd = s.now ∧ ∀ k, t.e ≤ k → t.resBuf.get k = s.resBuf.get k

theorem commitResults_get (s : State) {k : Nat} (h : s.e ≤ k) :
    (commitResults s).resBuf.get k = s.resBuf.get k := by
  rcases Nat.lt_or_ge k 8 with h8 | h8
  · exact (buf8_get_ofFn _ h8).trans (if_neg (Nat.not_lt.2 h))
  · rw [buf8_get_of_le _ h8, buf8_get_of_le _ h8]

/-- SEND_CMD commits its result, or leaves the old one, which is invalid from its first segment on. -/
theorem execSendCmd_results {s t : State} (hinv : Inv s) (h : execSendCmd s = .next t) :
    (t.resBuf = s.resBuf ∧ t.lastOk = s.lastOk ∧ t.resValid = false) ∨ Committed s t := by
  have invalid (hp : s.phase.owner = some .sendCmd) : s.resValid = false :=
    Bool.eq_false_iff.2 fun hv => (hinv.valid_ready hv).2 hp
  rcases execSendCmd_cases h with ⟨_, h⟩ | ⟨hp, h⟩ | ⟨hp, h⟩ | ⟨hp, h⟩ | ⟨hp, h⟩ | ⟨hp, h⟩
  -- the first segment
  · rcases h with ⟨_, rfl⟩ | ⟨_, _, rfl⟩ | ⟨_, _, rfl⟩ <;> exact .inl ⟨rfl, rfl, rfl⟩
  -- the gap and the spacing
  · have hv := invalid (by rw [hp]; rfl)
    rcases h with ⟨_, _, rfl⟩ | ⟨_, _, rfl⟩ | ⟨_, rfl⟩ <;> exact .inl ⟨rfl, rfl, hv⟩
  · have hv := invalid (by rw [hp]; rfl)
    rcases h with ⟨_, rfl⟩ | ⟨_, rfl⟩ <;> exact .inl ⟨rfl, rfl, hv⟩
  -- a request byte and its echo
  · have hv := invalid (by rw [hp]; rfl)
    rcases h with ⟨_, rfl⟩ | ⟨_, rfl⟩ <;> exact .inl ⟨rfl, rfl, hv⟩
  · have hv := invalid (by rw [hp]; rfl)
    rcases h with ⟨_, _, _, rfl⟩ | ⟨_, _, _, rfl⟩ | ⟨_, _, rfl⟩ | ⟨_, _, rfl⟩ | ⟨_, _, rfl⟩
      <;> exact .inl ⟨rfl, rfl, hv⟩
  -- a response byte, of which the last commits
  · have hv := invalid (by rw [hp]; rfl)
    rcases h with ⟨_, _, _, _, rfl⟩ | ⟨_, _, _, rfl⟩ | ⟨_, _, _, _, rfl⟩ | ⟨_, _, _, rfl⟩ | ⟨_, _, rfl⟩
      | ⟨_, _, rfl⟩
    · exact .inl ⟨rfl, rfl, hv⟩
    · exact .inl ⟨rfl, rfl, hv⟩
    · exact .inl ⟨rfl, rfl, hv⟩
    · exact .inr ⟨hp, rfl, rfl, rfl, rfl, rfl, rfl, fun _ hk => commitResults_get _ hk⟩
    · exact .inl ⟨rfl, rfl, hv⟩
    · exact .inl ⟨rfl, rfl, hv⟩

/-- A successful CONNECT writes `LAST_OK` (R43, R182 step 7); no other segment of it does. -/
theorem execConnect_lastOk {s t : State} (h : execConnect s = .next t) :
    t.lastOk = s.lastOk
      ∨ (s.phase = .connectAck ∧ t.errKind = .none ∧ t.busy = false ∧ t.session = .ready) := by
  by_cases hp : s.phase = .connectAck
  · simp only [execConnect, hp] at h
    cases h
    rcases onRx_cases (hsFail .timeout 0x00 6) connectGotAck s with ⟨_, e⟩ | ⟨_, _, e⟩ | ⟨_, _, e⟩ <;> rw [e]
    · unfold connectGotAck
      split
      · exact .inr ⟨hp, rfl, rfl, rfl⟩
      · exact .inl rfl
    · exact .inl rfl
    · exact .inl rfl
  · have f := connectFrame s t h
    simp [f, hp]

/-- What an engine step does to the result: nothing, but that it may end its validity; SEND_CMD's commit; or a
successful CONNECT's `LAST_OK`. -/
theorem step_results {s t : State} (hinv : Inv s) (hm : engineMoves s = true) (h : step s = .next t) :
    (t.resBuf = s.resBuf ∧ (t.resValid = true → s.resValid = true)
      ∧ (decode s.cmd = .command .sendCmd → t.resValid = false)
      ∧ (t.lastOk = s.lastOk ∨ (decode s.cmd = .command .connect ∧ s.phase = .connectAck ∧ t.errKind = .none
        ∧ t.busy = false ∧ t.session = .ready)))
      ∨ (decode s.cmd = .command .sendCmd ∧ Committed s t) := by
  obtain ⟨l, n, ⟨i, hd, h⟩ | ⟨_, hd, rfl⟩⟩ := step_segment hm h
  · by_cases hs : i = .sendCmd
    · subst hs
      rcases execSendCmd_results (hinv.withMoves l n) h with ⟨hb, hl, hv⟩ | hc
      · exact .inl ⟨hb, by simp [hv], fun _ => hv, .inl hl⟩
      · exact .inr ⟨hd, hc⟩
    · left
      by_cases hc : i = .connect
      · subst hc
        have f := connectFrame _ t h
        refine ⟨by simp [f], by simp [f], by simp [hd], ?_⟩
        exact (execConnect_lastOk h).imp_right fun hk => ⟨hd, hk⟩
      · obtain ⟨_, _, _, hb, hl, hv⟩ := exec_short_results hc hs h
        exact ⟨hb, hv, fun e => by cases hd.symm.trans e; exact absurd rfl hs, .inl hl⟩
  · exact .inl ⟨rfl, id, by simp [hd], .inl rfl⟩

/-- Settles O57: an engine step by `step_results`; the other agents change no result. -/
theorem resultsChangeOnlyAtTheCommit : Obligations.ResultsChangeOnlyAtTheCommit := by
  intro s t hinv h _ hn
  by_cases hm : engineMoves s = true
  · rcases step_results hinv hm h with ⟨hb, hv, hsend, hl⟩ | ⟨hd, hp, ht, he, hs, hv, hl, hc, hk⟩
    · refine ⟨?_, fun hne => ?_, fun hd _ ht he => ⟨hsend hd, hb, ?_⟩⟩
      · rintro (hne | ⟨hf, ht⟩)
        · exact absurd hb hne
        · exact absurd (hf.symm.trans (hv ht)) Bool.false_ne_true
      · obtain ⟨hd, hp, he, ht, hs⟩ := hl.resolve_left hne
        exact ⟨hm, he, ht, hs, .inr ⟨hd, hp⟩⟩
      · exact hl.resolve_right fun hc => by cases hd.symm.trans hc.1
    · have ready : t.session = .ready := hs.trans (hinv.send_ready (by rw [hp]; rfl)).1
      exact ⟨fun _ => ⟨hm, hd, hp, ht, he, hv, hl, hc, hk⟩,
        fun _ => ⟨hm, he, ht, ready, .inl ⟨hd, hp, hv⟩⟩, fun _ _ _ hne => absurd he hne⟩
  · obtain ⟨results, busy⟩ := step_outcome_of_not_engineMoves hm hn h
    simp only [State.outcome, Outcome.mk.injEq, Prod.mk.injEq] at results
    have busy (hb : s.busy = true) : t.busy = true := by
      rcases busy with e | ⟨_, hb', _⟩
      · exact e.trans hb
      · exact absurd (hb'.symm.trans hb) Bool.false_ne_true
    simp +contextual [results, busy]

/-! ### The request's bytes (R211) -/

/-- Settles O56: SEND_CMD buffers a byte only at its `uart_tx`, and that byte is the frame's at the index. -/
theorem noRequestByteOutsideReady : Obligations.NoRequestByteOutsideReady := by
  intro s t hinv h hd h₀ h₁
  -- only an engine step at a `uart_tx` fills the transmit buffer
  have rises : engineMoves s = true ∧ s.phase.isTx = true := by
    rcases step_lineFlags hinv h with e | ⟨hm, _, _, he⟩ | ⟨_, _, e⟩ | ⟨_, _, _, _, e⟩ | ⟨_, e⟩
    · exact absurd (h₀.symm.trans ((congrArg LineFlags.txFull e).symm.trans h₁)) Bool.false_ne_true
    · exact ⟨hm, he.txFull_rises h₀ h₁⟩
    · exact absurd ((congrArg LineFlags.txFull e).symm.trans h₁) Bool.false_ne_true
    · exact absurd (h₀.symm.trans ((congrArg LineFlags.txFull e).symm.trans h₁)) Bool.false_ne_true
    · exact absurd ((congrArg LineFlags.txFull e).symm.trans h₁) Bool.false_ne_true
  obtain ⟨hm, htx⟩ := rises
  have hp : s.phase = .sendTx := by
    rcases (isTx_iff _).1 htx with hp | hp | hp
    · cases hd.symm.trans (hinv.owner .transmit (by rw [hp]; rfl))
    · cases hd.symm.trans (hinv.owner .connect (by rw [hp]; rfl))
    · exact hp
  have ready : s.session = .ready := (hinv.send_ready (by rw [hp]; rfl)).1
  have index : s.locals.idx < s.request.length := by
    rw [request_length]
    exact Nat.lt_succ_of_le (hinv.request_idx (.inr (.inl hp)))
  obtain ⟨l, n, ⟨i, hi, hx⟩ | ⟨_, hi, _⟩⟩ := step_segment hm h
  · cases hd.symm.trans hi
    cases hx.symm.trans ((sendCmdConfirmsEveryEcho { s with script := l, draws := n }).1 hp h₀)
    refine ⟨ready, ready, hp, (List.getElem?_eq_getElem index).trans (congrArg some ?_)⟩
    exact (List.getD_eq_getElem _ _ index).symm.trans (by rw [hinv.frame (by rw [hp]; rfl)]; rfl)
  · cases hd.symm.trans hi

end Sys2Proof.Machine

/-! ## The commands' words, their bits and the register fields (10_state.md, 30_encoding.md) -/

namespace Sys2Proof.Machine

/-- Settles O1: the decoder, word by word. -/
theorem commandWordsDecodeAsTheOpcodeMapSays : Obligations.CommandWordsDecodeAsTheOpcodeMapSays := by
  unfold Obligations.CommandWordsDecodeAsTheOpcodeMapSays
  decide

/-- Settles O5: the levels are those of `wakeLevel`'s equations. -/
theorem wakeByteHasTenCellsLowBitFirst : Obligations.WakeByteHasTenCellsLowBitFirst := fun c =>
  ⟨rfl, wakeLevel_zero c, wakeLevel_nine c, fun _ => wakeLevel_succ c, by decide⟩

/-- R25: the fields of `STATUS`, bit by bit. -/
theorem statusWord_fields (s : State) :
    (statusWord s).getLsbD 0 = s.busy ∧ (statusWord s).extractLsb' 1 2 = s.session.code
      ∧ (statusWord s).extractLsb' 3 1 = s.lineMode.code ∧ (statusWord s).getLsbD 4 = s.kline
      ∧ (statusWord s).getLsbD 5 = s.txFull ∧ (statusWord s).getLsbD 6 = s.rxFull
      ∧ (statusWord s).getLsbD 7 = s.rxOverrun ∧ (statusWord s).getLsbD 8 = s.resValid
      ∧ (statusWord s).getLsbD 9 = kaExpired s := by
  unfold statusWord
  refine ⟨?_, ?_, ?_, ?_, ?_, ?_, ?_, ?_, ?_⟩
  case refine_2 =>
    rw [BitVec.extractLsb'_append_eq_of_le (by decide)]
    exact BitVec.extractLsb'_append_eq_right
  case refine_3 =>
    iterate 2 rw [BitVec.extractLsb'_append_eq_of_le (by decide)]
    exact BitVec.extractLsb'_append_eq_right
  -- the flags of one bit
  all_goals simp only [BitVec.getLsbD_append]; simp

/-- The fields of a word of three bytes, such as `ERROR` (R34) and `KEYS` (R35). -/
theorem fields_of_three_bytes (x y z : Byte) :
    (0#8 ++ x ++ y ++ z).extractLsb' 0 8 = z ∧ (0#8 ++ x ++ y ++ z).extractLsb' 8 8 = y
      ∧ (0#8 ++ x ++ y ++ z).extractLsb' 16 8 = x := by
  refine ⟨BitVec.extractLsb'_append_eq_right, ?_, ?_⟩
  · rw [BitVec.extractLsb'_append_eq_of_le (by decide)]
    exact BitVec.extractLsb'_append_eq_right
  · iterate 2 rw [BitVec.extractLsb'_append_eq_of_le (by decide)]
    exact BitVec.extractLsb'_append_eq_right

/-- R38: the two lengths of `FRAMECFG`. -/
theorem frameCfgWord_fields (s : State) :
    (frameCfgWord s).extractLsb' 0 4 = s.cmdLen ∧ (frameCfgWord s).extractLsb' 8 4 = s.expLen := by
  refine ⟨BitVec.extractLsb'_append_eq_right, ?_⟩
  unfold frameCfgWord
  iterate 2 rw [BitVec.extractLsb'_append_eq_of_le (by decide)]
  exact BitVec.extractLsb'_append_eq_right

/-- R39: the two checksums of `RXCSUM`. -/
theorem rxCsumWord_fields (s : State) :
    (rxCsumWord s).extractLsb' 0 8 = s.csumReceived ∧ (rxCsumWord s).extractLsb' 8 8 = s.csumComputed := by
  refine ⟨BitVec.extractLsb'_append_eq_right, ?_⟩
  unfold rxCsumWord
  rw [BitVec.extractLsb'_append_eq_of_le (by decide)]
  exact BitVec.extractLsb'_append_eq_right

/-- Settles O7: the codes as they are written, the fields register by register. -/
theorem registerFieldsStandAtTheirBits : Obligations.RegisterFieldsStandAtTheirBits := by
  refine ⟨by decide, by decide, fun s => ?_⟩
  obtain ⟨busy, session, mode, kline, tx, rx, overrun, valid, expired⟩ := statusWord_fields s
  obtain ⟨code, byte, pos⟩ := fields_of_three_bytes s.errPos s.errByte s.errKind.code
  obtain ⟨key1, key2, sync⟩ := fields_of_three_bytes s.keySync s.key2 s.key1
  obtain ⟨n, e⟩ := frameCfgWord_fields s
  obtain ⟨received, computed⟩ := rxCsumWord_fields s
  exact ⟨busy, session, mode, kline, tx, rx, overrun, valid, expired, code, byte, pos, key1, key2, sync, n, e,
    received, computed, BitVec.extractLsb'_append_eq_right, BitVec.extractLsb'_append_eq_right, rfl, rfl, rfl⟩

end Sys2Proof.Machine

/-! ## Each command's segments at its start and at its hold points (40_control.md, 42 to 44) -/

namespace Sys2Proof.Machine

/-! ### What a segment is, hold point by hold point (R122) -/

section

variable {s : State}

theorem execReceive_of_start (h : s.phase = .start) : execReceive s = .next (receiveStart s) := by
  rw [execReceive, h]

theorem execReceive_of_receiveRx (h : s.phase = .receiveRx) : execReceive s = .next (receiveByte s) := by
  rw [execReceive, h]

theorem execConnect_of_start (h : s.phase = .start) : execConnect s = .next (connectStart s) := by
  rw [execConnect, h]

theorem execConnect_of_connectIdle (h : s.phase = .connectIdle) :
    execConnect s = .next (onWait s.cfg.tIdle (wakeBegin .connectCell) s) := by
  rw [execConnect, h]

theorem execConnect_of_connectCell (h : s.phase = .connectCell) :
    execConnect s = .next (onWait s.cfg.tBit (wakeNext .connectCell connectToUart) s) := by
  rw [execConnect, h]

theorem execConnect_of_connectSync (h : s.phase = .connectSync) :
    execConnect s = .next (onRx (hsFail .timeout 0x00 3) connectGotSync s) := by
  rw [execConnect, h]

theorem execConnect_of_connectW4 (h : s.phase = .connectW4) :
    execConnect s = .next (onWait s.cfg.tW4 (hold .connectTx) s) := by
  rw [execConnect, h]

theorem execConnect_of_connectTx (h : s.phase = .connectTx) :
    execConnect s = .next (onTx (~~~s.key2) connectSentAck s) := by
  rw [execConnect, h]

theorem execConnect_of_connectEcho (h : s.phase = .connectEcho) :
    execConnect s = .next (onRx (hsFail .timeout 0x00 5) connectGotEcho s) := by
  rw [execConnect, h]

theorem execConnect_of_connectW5 (h : s.phase = .connectW5) :
    execConnect s = .next (onWait s.cfg.tW5 (hold .connectAck) s) := by
  rw [execConnect, h]

theorem execConnect_of_connectAck (h : s.phase = .connectAck) :
    execConnect s = .next (onRx (hsFail .timeout 0x00 6) connectGotAck s) := by
  rw [execConnect, h]

theorem execSendCmd_of_start (h : s.phase = .start) : execSendCmd s = .next (sendStart s) := by
  rw [execSendCmd, h]

theorem execSendCmd_of_sendEcho (h : s.phase = .sendEcho) :
    execSendCmd s = .next (onRx (endCmd .timeout 0x00 (posByte s.locals.idx)) sendGotEcho s) := by
  rw [execSendCmd, h]

theorem execSendCmd_of_sendResp (h : s.phase = .sendResp) :
    execSendCmd s = .next (onRx (endCmd .timeout 0x00 (0x80 + posByte s.locals.idx)) sendGotResponse s) := by
  rw [execSendCmd, h]

end

/-! ### The engine holds (R122) -/

section

variable {s : State}

theorem onWait_of_not_waited {n : Nat} (h : waited n s = false) (k : State → State) : onWait n k s = s :=
  if_neg (by simp [h])

theorem onGap_of_not_passed (h : gapPassed s = false) (k : State → State) : onGap k s = s :=
  if_neg (by simp [h])

/-- R130: with no byte and the time limit not passed, `uart_rx` holds. -/
theorem onRx_of_silent (h : (s.rxFull || timedOut s) = false) (late : State → State)
    (got : Byte → State → State) : onRx late got s = s := by
  obtain ⟨hf, ht⟩ := Bool.or_eq_false_iff.1 h
  simp [onRx, hf, ht]

/-- R130: with no byte and the time limit passed, `uart_rx` fails. -/
theorem onRx_of_late (hf : s.rxFull = false) (ht : timedOut s = true) (late : State → State)
    (got : Byte → State → State) : onRx late got s = late s := by
  simp [onRx, hf, ht]

theorem timedOut_of_no_limit (h : s.cfg.rxTimeout = 0) : timedOut s = false := by
  simp [timedOut, h]

theorem holdReady_of_isRx (h : s.phase.isRx = true) : holdReady s = (s.rxFull || timedOut s) := by
  rcases (isRx_iff _).1 h with h | h | h | h | h | h | h | h <;> rw [holdReady, h]

end

/-- R122: at a hold point of its command whose condition is false, the segment answers the state it was given. -/
theorem exec_of_not_holdReady {i : Instr} {s : State} (ho : s.phase.owner = some i) (h : holdReady s = false) :
    exec i s = .next s := by
  cases hp : s.phase <;> rw [hp] at ho <;> cases ho <;> simp only [holdReady, hp] at h
  -- the waits
  case wakeCell => exact (execWakeup_of_wakeCell hp).trans (by rw [onWait_of_not_waited h])
  case connectIdle => exact (execConnect_of_connectIdle hp).trans (by rw [onWait_of_not_waited h])
  case connectCell => exact (execConnect_of_connectCell hp).trans (by rw [onWait_of_not_waited h])
  case connectW4 => exact (execConnect_of_connectW4 hp).trans (by rw [onWait_of_not_waited h])
  case connectW5 => exact (execConnect_of_connectW5 hp).trans (by rw [onWait_of_not_waited h])
  case sendSpacing => exact (execSendCmd_of_sendSpacing hp).trans (by rw [onWait_of_not_waited h])
  case sendGap => exact (execSendCmd_of_sendGap hp).trans (by rw [onGap_of_not_passed h])
  -- the transmissions
  case transmitTx => exact (execTransmit_of_transmitTx hp).trans (by rw [onTx_of_full (by simpa using h)])
  case connectTx => exact (execConnect_of_connectTx hp).trans (by rw [onTx_of_full (by simpa using h)])
  case sendTx => exact (execSendCmd_of_sendTx hp).trans (by rw [onTx_of_full (by simpa using h)])
  -- the receives
  case receiveRx => exact (execReceive_of_receiveRx hp).trans (congrArg _ (onRx_of_silent h ..))
  case connectSync => exact (execConnect_of_connectSync hp).trans (by rw [onRx_of_silent h])
  case connectKey1 => exact (execConnect_of_connectKey1 hp).trans (by rw [onRx_of_silent h])
  case connectKey2 => exact (execConnect_of_connectKey2 hp).trans (by rw [onRx_of_silent h])
  case connectEcho => exact (execConnect_of_connectEcho hp).trans (by rw [onRx_of_silent h])
  case connectAck => exact (execConnect_of_connectAck hp).trans (by rw [onRx_of_silent h])
  case sendEcho => exact (execSendCmd_of_sendEcho hp).trans (by rw [onRx_of_silent h])
  case sendResp => exact (execSendCmd_of_sendResp hp).trans (by rw [onRx_of_silent h])

/-- A state that waits in `uart_rx` for a byte with no time limit (R130). -/
def Listening (s : State) : Prop :=
  s.phase.isRx = true ∧ s.busy = true ∧ s.rxFull = false ∧ s.cfg.rxTimeout = 0 ∧ s.rst = false

/-- On a silent line every move leaves such a state waiting, as it was. -/
theorem Listening.move {e : Event} {s t : State} (h : Listening s) (hr : e ≠ .rstAssert)
    (hx : ∀ x, e ≠ .deliver x) (hm : move e s = .next t) :
    Listening t ∧ t.phase = s.phase ∧ t.locals = s.locals := by
  have hl := h
  obtain ⟨hrx, hb, hf, hc, hrst⟩ := hl
  have he : engineEnabled s = false := by
    simp [engineEnabled, holdReady_of_isRx hrx, hf, timedOut_of_no_limit hc]
  have popped : Listening (popEvent s) := by rw [popEvent_eq]; exact h
  rcases move_cases hm with ⟨hr', _⟩ | ⟨_, he', _⟩ | ⟨_, he', _⟩ | ⟨_, _, _, rfl⟩ | ⟨_, _, _, rfl⟩ | ⟨_, _, rfl⟩
    | ⟨_, x, e, _⟩ | ⟨_, a, _, _, rfl⟩ | ⟨_, a, v, _, _, rfl⟩ | ⟨_, e, _⟩ | ⟨_, _, rfl⟩
  -- no move under `rst`, and none of the engine
  · exact absurd (hrst.symm.trans hr') Bool.false_ne_true
  · exact absurd (he.symm.trans he') Bool.false_ne_true
  · exact absurd (he.symm.trans he') Bool.false_ne_true
  · exact ⟨popped, popEvent_phase s, popEvent_locals s⟩
  -- a tick; the Serializer; no delivery; a host read, and a host write, which is lost
  · exact ⟨popped, popEvent_phase s, popEvent_locals s⟩
  · rw [serialize_eq]; exact ⟨popped, popEvent_phase s, popEvent_locals s⟩
  · exact absurd e (hx x)
  · exact ⟨popped, popEvent_phase s, popEvent_locals s⟩
  · rw [writeReg_of_busy _ _ (by simpa using hb)]; exact ⟨popped, popEvent_phase s, popEvent_locals s⟩
  -- `rst` is not asserted; a release of it
  · exact absurd e hr
  · exact ⟨popped, popEvent_phase s, popEvent_locals s⟩

/-- Settles O17: one segment by `exec_of_not_holdReady`, an endless run by induction with `Listening.move`. -/
theorem engineHoldsWhileItsConditionIsFalse : Obligations.EngineHoldsWhileItsConditionIsFalse := by
  refine ⟨fun _ _ => exec_of_not_holdReady, fun moves s k run hrx hb hf hc hr quiet j hj => ?_⟩
  have waits : Listening (s j) ∧ (s j).phase = (s k).phase ∧ (s j).locals = (s k).locals := by
    induction j, hj using Nat.le_induction with
    | base => exact ⟨⟨hrx, hb, hf, hc, hr⟩, rfl, rfl⟩
    | succ j hj ih =>
      obtain ⟨hl, hp, hloc⟩ := ih
      obtain ⟨hl', hp', hloc'⟩ := hl.move (quiet j hj).1 (quiet j hj).2 (run j)
      exact ⟨hl', hp'.trans hp, hloc'.trans hloc⟩
  obtain ⟨⟨_, hb', hf', _⟩, hp, hloc⟩ := waits
  exact ⟨hp, hb', hf', hloc⟩

end Sys2Proof.Machine

namespace Sys2Proof.Machine

/-! ### Preconditions (R133) -/

theorem lengthsLegal_iff (c : Config) (n e : Nat) :
    lengthsLegal c n e = true ↔ 1 ≤ n ∧ n ≤ c.pidBufSize ∧ e ≤ c.resBufSize := by
  simp [lengthsLegal, and_assoc]

theorem sendStart_of_legal {s : State} (hs : s.session = .ready) (hl : lengthsLegal s.cfg s.n s.e = true) :
    sendStart s = hold .sendGap { s with resValid := false } :=
  (if_pos hs).trans (if_pos hl)

theorem sendStart_of_badLength {s : State} (hs : s.session = .ready) (hl : ¬ lengthsLegal s.cfg s.n s.e = true) :
    sendStart s = raiseError .badLength 0x00 0x00 { s with resValid := false } :=
  (if_pos hs).trans (if_neg hl)

/-- Settles O23: each command's first segment, where its precondition is false. -/
theorem failedPreconditionsEndWithTheirError : Obligations.FailedPreconditionsEndWithTheirError := by
  intro s hp
  refine ⟨fun hd hf => ?_, fun hl => ⟨?_, ?_⟩, fun hs => ?_, fun hs => ?_, fun hs hl => ?_⟩
  · exact (execWakeup_of_start hp).trans (by rw [wakeupStart, if_neg (by simp [hd, hf])])
  · exact (execTransmit_of_start hp).trans (by rw [transmitStart, if_neg (by simp [hl])])
  · exact (execReceive_of_start hp).trans (by rw [receiveStart, if_neg (by simp [hl])])
  · exact (execConnect_of_start hp).trans (by rw [connectStart, if_neg hs])
  · exact (execSendCmd_of_start hp).trans (congrArg Host.Outcome.next (if_neg hs))
  · refine (execSendCmd_of_start hp).trans (congrArg Host.Outcome.next (sendStart_of_badLength hs ?_))
    rw [lengthsLegal_iff]
    omega

/-! ### RECEIVE (R162) -/

theorem receiveStart_of_waiting {s : State} (hl : s.lineMode = .uart) (h : s.rxAtAccept = true)
    (hf : s.rxFull = true) : receiveStart s
      = finish { s with rxFull := false, rxData := s.rxReg, locals := { s.locals with t0 := s.now } } := by
  rcases receiveStart_cases s with ⟨_, _, _, e⟩ | ⟨_, h', _⟩ | ⟨h', _⟩
  · exact e
  · simp [h, hf] at h'
  · simp [hl] at h'

theorem receiveStart_of_none {s : State} (hl : s.lineMode = .uart) (h : s.rxAtAccept = false ∨ s.rxFull = false) :
    receiveStart s = hold .receiveRx s := by
  rcases receiveStart_cases s with ⟨_, ha, hf, _⟩ | ⟨_, _, e⟩ | ⟨h', _⟩
  · simp [ha, hf] at h
  · exact e
  · simp [hl] at h'

/-- Settles O27: the first segment by what the acceptance saw, the hold point by `onRx`'s three cases. -/
theorem receiveReturnsTheByte : Obligations.ReceiveReturnsTheByte := by
  refine ⟨rfl, fun s => ⟨fun hl hf => ?_, fun hl hf => ?_, fun hp hl ha hf => ?_, fun hp hl h => ?_,
    fun hp hl => ?_, fun hp hf => ?_, fun hp hf h₀ ht => ?_, fun hp hf h => ?_⟩⟩
  -- directly after the acceptance
  · refine (execReceive_of_start (accept_phase ..)).trans ?_
    rw [receiveStart_of_waiting (s := accept 0x00000003 s) hl hf hf]
    simp [finish, accept, Locals.empty, hf]
  · refine (execReceive_of_start (accept_phase ..)).trans ?_
    rw [receiveStart_of_none (s := accept 0x00000003 s) hl (.inr hf)]
    simp [hold, accept, Locals.empty, hf]
  -- the first segment
  · exact (execReceive_of_start hp).trans (by rw [receiveStart_of_waiting hl ha hf]; rfl)
  · exact (execReceive_of_start hp).trans (by rw [receiveStart_of_none hl h]; rfl)
  · exact (execReceive_of_start hp).trans (by rw [receiveStart, if_neg hl]; rfl)
  -- the hold point
  · exact (execReceive_of_receiveRx hp).trans (congrArg Host.Outcome.next (onRx_of_full hf ..))
  · exact (execReceive_of_receiveRx hp).trans
      (congrArg Host.Outcome.next (onRx_of_late hf ((timedOut_iff s).2 ⟨h₀, ht⟩) ..))
  · have ht : timedOut s = false := by
      rw [Bool.eq_false_iff, Ne, timedOut_iff]; omega
    exact (execReceive_of_receiveRx hp).trans (congrArg Host.Outcome.next (onRx_of_silent (by simp [hf, ht]) ..))

/-! ### CONNECT, step by step (R182) -/

/-- Settles O33: the first segment, the idle wait and the cells, by their equations. -/
theorem connectWakesTheVehicleThenEntersUart : Obligations.ConnectWakesTheVehicleThenEntersUart := by
  refine fun s => ⟨fun hp hs => ?_, fun hp ht => ?_, fun hp ht hi => ?_, fun hp ht hi => ?_⟩
  · exact (execConnect_of_start hp).trans (by rw [connectStart, if_pos hs]; rfl)
  · exact (execConnect_of_connectIdle hp).trans (by rw [onWait_of_le ht]; rfl)
  · refine (execConnect_of_connectCell hp).trans ?_
    rw [onWait_of_le ht, wakeNext_of_lt _ _ hi, hold_of_phase]
    · rfl
    · exact hp
  · exact (execConnect_of_connectCell hp).trans (by rw [onWait_of_le ht, wakeNext_of_le _ _ hi.ge]; rfl)

/-- Settles O34: the byte is taken by `uart_rx` and compared with `SYNC_BYTE`. -/
theorem connectChecksTheSyncByte : Obligations.ConnectChecksTheSyncByte := by
  refine fun s hp hf => ⟨fun hx => ?_, fun hx => ?_⟩
  · exact (execConnect_of_connectSync hp).trans (by rw [onRx_of_full hf, connectGotSync, if_pos hx]; rfl)
  · exact (execConnect_of_connectSync hp).trans (by rw [onRx_of_full hf, connectGotSync, if_neg hx]; rfl)

/-- Settles O36: the wait, the transmission with and without `ACK_ECHO`, and the two outcomes of the echo. -/
theorem connectAnswersWithComplementOfKey2 : Obligations.ConnectAnswersWithComplementOfKey2 := by
  refine fun s => ⟨fun hp ht => ?_, fun hp hf => ?_, fun hp hf hx => ?_, fun hp hf hx => ?_⟩
  · exact (execConnect_of_connectW4 hp).trans (by rw [onWait_of_le ht]; rfl)
  · refine (execConnect_of_connectTx hp).trans ?_
    rw [onTx_of_empty hf, connectSentAck]
    split <;> rfl
  · exact (execConnect_of_connectEcho hp).trans (by rw [onRx_of_full hf, connectGotEcho, if_pos hx]; rfl)
  · exact (execConnect_of_connectEcho hp).trans (by rw [onRx_of_full hf, connectGotEcho, if_neg hx]; rfl)

/-- Settles O37: the wait, and the two outcomes of the final byte. -/
theorem connectEndsReadyOnTheFinalByte : Obligations.ConnectEndsReadyOnTheFinalByte := by
  refine fun s => ⟨fun hp ht => ?_, fun hp hf hx => ?_, fun hp hf hx => ?_⟩
  · exact (execConnect_of_connectW5 hp).trans (by rw [onWait_of_le ht]; rfl)
  · exact (execConnect_of_connectAck hp).trans (congrArg Host.Outcome.next ((onRx_of_full hf ..).trans (if_pos hx)))
  · exact (execConnect_of_connectAck hp).trans (congrArg Host.Outcome.next ((onRx_of_full hf ..).trans (if_neg hx)))

/-- Each receive of CONNECT is a `uart_rx` that fails by `hs_fail` with its step's number. -/
theorem execConnect_of_receive {s : State} {pos : Byte}
    (h : (s.phase = .connectSync ∧ pos = 3) ∨ (s.phase = .connectKey1 ∧ pos = 4) ∨ (s.phase = .connectKey2 ∧ pos = 4)
      ∨ (s.phase = .connectEcho ∧ pos = 5) ∨ (s.phase = .connectAck ∧ pos = 6)) :
    ∃ got, execConnect s = .next (onRx (hsFail .timeout 0x00 pos) got s) := by
  rcases h with ⟨hp, rfl⟩ | ⟨hp, rfl⟩ | ⟨hp, rfl⟩ | ⟨hp, rfl⟩ | ⟨hp, rfl⟩
  exacts [⟨_, execConnect_of_connectSync hp⟩, ⟨_, execConnect_of_connectKey1 hp⟩, ⟨_, execConnect_of_connectKey2 hp⟩,
    ⟨_, execConnect_of_connectEcho hp⟩, ⟨_, execConnect_of_connectAck hp⟩]

/-- Settles O38: at each of the five receives of `execConnect_of_receive`, late or with no limit. -/
theorem connectReceiveTimesOutWithItsStep : Obligations.ConnectReceiveTimesOutWithItsStep := by
  intro s pos hf h
  obtain ⟨got, e⟩ := execConnect_of_receive h
  refine ⟨fun h₀ ht => e.trans ?_, fun h₀ => e.trans ?_⟩
  · rw [onRx_of_late hf ((timedOut_iff s).2 ⟨h₀, ht⟩)]; rfl
  · rw [onRx_of_silent (by simp [hf, timedOut_of_no_limit h₀])]

/-! ### SEND_CMD's gap and its time limits (R210, R214) -/

/-- Settles O40: the first segment with its preconditions met, then the gap before and after its end. -/
theorem sendCmdKeepsTheInterRequestGap : Obligations.SendCmdKeepsTheInterRequestGap := by
  refine fun s => ⟨fun hp hs h1 hn he => ?_, fun hp ht => ?_, fun hp ht hk => ?_⟩
  · have hl := (lengthsLegal_iff s.cfg s.n s.e).2 ⟨h1, hn, he⟩
    exact (execSendCmd_of_start hp).trans (by rw [sendStart_of_legal hs hl]; rfl)
  · have hg : gapPassed s = false := by
      rw [Bool.eq_false_iff, Ne, gapPassed_iff]; omega
    exact (execSendCmd_of_sendGap hp).trans (by rw [onGap_of_not_passed hg])
  · have alive : kaExpired s = false := by
      rw [Bool.eq_false_iff, Ne, kaExpired_iff]; omega
    exact (execSendCmd_of_sendGap hp).trans
      (by rw [onGap_of_passed ((gapPassed_iff s).2 ht), sendAfterGap_of_alive alive]; rfl)

/-- Settles O45: both receives fail late, with the index as the position. -/
theorem sendCmdReceiveTimesOutWithItsPosition : Obligations.SendCmdReceiveTimesOutWithItsPosition := by
  intro s hf h₀ ht
  have late : timedOut s = true := (timedOut_iff s).2 ⟨h₀, ht⟩
  refine ⟨fun hp => ?_, fun hp => ?_⟩
  · exact (execSendCmd_of_sendEcho hp).trans (by rw [onRx_of_late hf late]; rfl)
  · refine (execSendCmd_of_sendResp hp).trans ?_
    rw [onRx_of_late hf late, posByte, BitVec.ofNat_add]; rfl

end Sys2Proof.Machine

/-! ## Time and the wire in fair runs (00_scope.md section 5, 42_transceiver.md section 2, 60_exceptions.md) -/

namespace Sys2Proof.Machine

/-- What happens at some time from `k` on has a first time. -/
theorem exists_first {P : Nat → Prop} {k : Nat} (h : ∃ j, k ≤ j ∧ P j) :
    ∃ j, k ≤ j ∧ P j ∧ ∀ i, k ≤ i → i < j → ¬ P i := by
  classical
  obtain ⟨hk, hP⟩ := Nat.find_spec h
  exact ⟨Nat.find h, hk, hP, fun i hi hlt hPi => Nat.find_min h hlt ⟨hi, hPi⟩⟩

/-! ### Time goes on (R14, R255, R256) -/

/-- R255: a move that takes no tick leaves the time, unless it asserts `rst`. -/
theorem move_now {e : Event} {s t : State} (h : move e s = .next t) :
    t.now = s.now ∨ takesTick e s = true ∨ t.rst = true := by
  rcases move_cases h with ⟨_, rfl⟩ | ⟨_, _, _, h⟩ | ⟨_, _, _, h⟩ | ⟨_, _, _, rfl⟩ | ⟨hr, he, hn, rfl⟩ | ⟨_, _, rfl⟩
    | ⟨_, x, _, rfl⟩ | ⟨_, a, _, _, rfl⟩ | ⟨_, a, v, _, _, rfl⟩ | ⟨_, _, rfl⟩ | ⟨_, _, rfl⟩
  -- a move under `rst`
  · exact .inl ((congrArg State.now (moveInReset_eq _ _)).trans (popEvent_now s))
  -- the engine runs a segment, at its own move or before a waiting tick
  · exact .inl ((engineStep_segmentFrame h).now.trans (popEvent_now s))
  · exact .inl (engineStep_segmentFrame h).now
  -- the engine has no step; a tick
  · exact .inl (popEvent_now s)
  · exact .inr (.inl ((takesTick_iff _ s).2 ⟨he, hr, hn⟩))
  -- the Serializer; a delivery; a host read; a host write
  · exact .inl ((congrArg State.now (serialize_eq _)).trans (popEvent_now s))
  · exact .inl ((congrArg State.now (deliver_eq x _)).trans (popEvent_now s))
  · exact .inl (popEvent_now s)
  · exact .inl ((congrArg State.now (writeReg_eq _ v _)).trans (popEvent_now s))
  -- `rst` is asserted or released
  · exact .inr (.inr rfl)
  · exact .inl (popEvent_now s)

/-- R256: a tick that comes next while the engine has a step waits for that step. -/
theorem step_of_waiting_tick {s : State} (hr : s.rst = false) (hn : nextEvent s = .tick)
    (he : engineEnabled s = true) : step s = engineStep s := by
  rw [step_of_engineMoves ((engineMoves_iff s).2 ⟨hr, he, .inr hn⟩), beforeSegment, if_neg (by simp [hn])]

/-- Settles O20: a pending tick waits by `step_of_waiting_tick`; in a fair run the first tick from `k` on finds the
time of `k`, by `move_now` at every move before it. -/
theorem tickWaitsForTheEngine : Obligations.TickWaitsForTheEngine := by
  refine ⟨fun s hr hn he => ?_, fun moves s fair k => ?_⟩
  · have hs := step_of_waiting_tick hr hn he
    refine ⟨hs, fun t h => ?_⟩
    have f := engineStep_segmentFrame (hs.symm.trans h)
    exact ⟨f.now, f.script, f.draws⟩
  · obtain ⟨j, hj, htick | hrst, before⟩ := exists_first (fair.timeBase k)
    · obtain ⟨_, hr, _⟩ := (takesTick_iff _ _).1 htick
      have stands : ∀ i, k ≤ i → i ≤ j → (s i).now = (s k).now := by
        intro i hi
        induction i, hi using Nat.le_induction with
        | base => exact fun _ => rfl
        | succ i hi ih =>
          intro hle
          have none := before i hi hle
          rcases move_now (fair.run i) with e | ht | hr'
          · exact e.trans (ih (Nat.le_of_succ_le hle))
          · exact absurd (.inl ht) none
          · rcases Nat.lt_or_eq_of_le hle with hlt | rfl
            · exact absurd (.inr hr') (before (i + 1) (Nat.le_succ_of_le hi) hlt)
            · exact absurd (hr.symm.trans hr') Bool.false_ne_true
      have next : s (j + 1) = tick (popEvent (s j)) :=
        Host.Outcome.next.inj ((fair.run j).symm.trans (move_takesTick htick))
      refine ⟨j, hj, .inr ⟨stands j hj le_rfl, htick, ?_⟩⟩
      rw [next, tick_now, popEvent_now, stands j hj le_rfl]
    · exact ⟨j, hj, .inl hrst⟩

/-! ### The byte in the transmit buffer (R163, R165) -/

/-- R129: no segment overwrites a byte that waits in the transmit buffer. -/
theorem exec_txReg_of_full {i : Instr} {s t : State} (h : exec i s = .next t) (hf : s.txFull = true) :
    t.txReg = s.txReg := by
  by_cases hc : i = .connect
  · subst hc
    by_cases hp : s.phase = .connectTx
    · cases h.symm.trans (execConnect_of_connectTx hp)
      rw [onTx_of_full hf]
    · have f := connectFrame s t h
      simp [f, hp]
  by_cases hs : i = .sendCmd
  · subst hs
    by_cases hp : s.phase = .sendTx
    · cases h.symm.trans (execSendCmd_of_sendTx hp)
      rw [onTx_of_full hf]
    · have f := sendCmdFrame s t h
      simp [f, hp]
  by_cases ht : i = .transmit
  · subst ht
    rcases execTransmit_cases h with ⟨_, ⟨_, rfl⟩ | ⟨_, rfl⟩⟩ | ⟨_, he, _⟩ | ⟨_, _, rfl⟩
    · rfl
    · rfl
    · exact absurd (he.symm.trans hf) Bool.false_ne_true
    · rfl
  · have f := shortCommandsFrame i s t hc hs h
    simp [f, ht]

/-- The byte that waits in `s` waits in `t` too. -/
def ByteWaits (s t : State) : Prop := t.txFull = true ∧ t.txReg = s.txReg

/-- R163, R169: the engine leaves a waiting byte, or discards it on entering GPIO mode. -/
theorem engineStep_byte {s t : State} (hi : s.phase ≠ .idle) (h : engineStep s = .next t) (hf : s.txFull = true) :
    ByteWaits s t ∨ (t.txFull = false ∧ t.lineMode = .gpio) := by
  have reg : t.txReg = s.txReg := by
    rcases engineStep_cases h with ⟨i, _, h⟩ | ⟨_, _, rfl⟩
    · exact exec_txReg_of_full h hf
    · rfl
  cases ht : t.txFull with
  | true => exact .inl ⟨ht, reg⟩
  | false =>
    rcases engineStep_lineFlags h hi with e | ⟨i, _, he⟩
    · exact absurd (ht.symm.trans ((congrArg LineFlags.txFull e).trans hf)) Bool.false_ne_true
    · exact .inr ⟨rfl, (he.txFull_falls hf ht).2⟩

/-- R165: the Serializer puts the waiting byte on the wire in UART mode, and has no step in GPIO mode. -/
theorem serialize_byte {s : State} (hf : s.txFull = true) :
    ByteWaits s (serialize s) ∨ ((serialize s).txFull = false ∧ (serialize s).wireTx = s.wireTx ++ [s.txReg]) := by
  unfold serialize
  split
  · exact .inr ⟨rfl, rfl⟩
  · exact .inl ⟨hf, rfl⟩

/-- A waiting byte stays, goes on the wire, or is discarded in GPIO mode (R163, R165, R169). -/
theorem move_byte {e : Event} {s t : State} (h : move e s = .next t) (hf : s.txFull = true) :
    ByteWaits s t
      ∨ (t.txFull = false ∧ ((e = .serialize ∧ t.wireTx = s.wireTx ++ [s.txReg]) ∨ t.lineMode = .gpio)) := by
  have popped : ByteWaits s (popEvent s) := ⟨(popEvent_txFull s).trans hf, popEvent_txReg s⟩
  have active (he : engineEnabled s = true) : s.phase ≠ .idle := fun hp => by
    have hr := ((engineEnabled_iff s).1 he).2
    rw [holdReady, hp] at hr
    exact absurd hr Bool.false_ne_true
  rcases move_cases h with ⟨_, rfl⟩ | ⟨_, he, _, h⟩ | ⟨_, he, _, h⟩ | ⟨_, _, _, rfl⟩ | ⟨_, _, _, rfl⟩ | ⟨_, he, rfl⟩
    | ⟨_, x, _, rfl⟩ | ⟨_, a, _, _, rfl⟩ | ⟨_, a, v, _, _, rfl⟩ | ⟨_, _, rfl⟩ | ⟨_, _, rfl⟩
  -- a move under `rst`
  · rw [moveInReset_eq]; exact .inl popped
  -- the engine runs a segment, at its own move or before a waiting tick
  · have hb := engineStep_byte (by simpa using active he) h popped.1
    rw [ByteWaits, popped.2] at hb
    exact hb.imp_right fun ⟨ht, hl⟩ => ⟨ht, .inr hl⟩
  · exact (engineStep_byte (active he) h hf).imp_right fun ⟨ht, hl⟩ => ⟨ht, .inr hl⟩
  -- the engine has no step; a tick
  · exact .inl popped
  · exact .inl popped
  -- the Serializer; a delivery; a host read; a host write
  · have hb := serialize_byte popped.1
    rw [ByteWaits, popped.2, popEvent_wireTx] at hb
    exact hb.imp_right fun ⟨ht, hw⟩ => ⟨ht, .inl ⟨he, hw⟩⟩
  · rw [deliver_eq]; exact .inl popped
  · exact .inl popped
  · rw [writeReg_eq]; exact .inl popped
  -- `rst` is asserted or released
  · exact .inr ⟨rfl, .inr rfl⟩
  · exact .inl popped

theorem step_serialize {s : State} (hr : s.rst = false) (he : nextEvent s = .serialize) :
    step s = .next (serialize (popEvent s)) := by
  simp [step, move, he, hr]

theorem serialize_of_full {s : State} (hf : s.txFull = true) (hl : s.lineMode = .uart) :
    serialize s = { s with wireTx := s.wireTx ++ [s.txReg], txFull := false } :=
  if_pos ⟨hf, hl⟩

theorem serialize_of_disabled {s : State} (h : s.txFull = false ∨ s.lineMode = .gpio) : serialize s = s :=
  if_neg fun ⟨hf, hl⟩ => by rcases h with h | h <;> simp_all

/-- R160, R165: in UART mode no cell is under way, so the line is at 1. -/
theorem Inv.kline_of_uart {s : State} (h : Inv s) (hl : s.lineMode = .uart) : s.kline = true := by
  refine h.line_high (Bool.eq_false_iff.2 fun hc => ?_)
  cases hl.symm.trans (h.gpio_phases (Bool.or_eq_true_iff.2 (.inl hc)))

/-- R165: the wire grows only by `tx_reg` in a Serializer step, which is enabled then. -/
theorem step_wire_grows {s t : State} (h : step s = .next t) :
    t.wireTx = s.wireTx ∨ (t.wireTx = s.wireTx ++ [s.txReg] ∧ s.txFull = true ∧ s.lineMode = .uart
      ∧ s.rst = false ∧ nextEvent s = .serialize ∧ t.txFull = false) := by
  refine (step_wireTx h).imp_right fun ⟨he, hw⟩ => ?_
  cases hr : s.rst with
  | true =>
    cases (step_of_rst hr).symm.trans h
    rw [(congrArg State.wireTx (moveInReset_eq _ _)).trans (popEvent_wireTx s)] at hw
    simp at hw
  | false =>
    cases (step_serialize hr he).symm.trans h
    by_cases hc : s.txFull = true ∧ s.lineMode = .uart
    · refine ⟨hw, hc.1, hc.2, rfl, he, ?_⟩
      rw [serialize_of_full (by simpa using hc.1) (by simpa using hc.2)]
    · rw [serialize, if_neg (by simpa using hc)] at hw
      simp at hw

/-- Settles O28: the Serializer's step by `serialize`'s equations; the wire by `step_wire_grows` and the line by the
invariant of the next state; in a fair run the byte waits by `move_byte` until the first move that empties the
buffer. -/
theorem wireCarriesWhatTheSerializerEmits : Obligations.WireCarriesWhatTheSerializerEmits := by
  refine ⟨fun s hr he => ?_, fun s t hinv h =>
    ⟨step_wire_grows h, (everyStepKeepsTheInvariant s t hinv h).kline_of_uart⟩, fun moves s fair k hf => ?_⟩
  · rw [step_serialize hr he]
    refine ⟨fun hf hl => ?_, fun h => ?_⟩
    · simp [serialize_of_full (s := popEvent s) (by simpa using hf) (by simpa using hl)]
    · rw [serialize_of_disabled (by simpa using h)]
  · have emptied : ∃ j, k ≤ j ∧ (s (j + 1)).txFull = false := by
      obtain ⟨j, hj, he⟩ := fair.serializer k hf
      rcases Nat.lt_or_eq_of_le hj with hlt | rfl
      · exact ⟨j - 1, by omega, by rwa [Nat.sub_add_cancel (by omega)]⟩
      · exact absurd (he.symm.trans hf) Bool.false_ne_true
    obtain ⟨j, hj, he, before⟩ := exists_first emptied
    have waits : ∀ i, k ≤ i → i ≤ j → ByteWaits (s k) (s i) := by
      intro i hi
      induction i, hi using Nat.le_induction with
      | base => exact fun _ => ⟨hf, rfl⟩
      | succ i hi ih =>
        intro hle
        obtain ⟨hfi, hri⟩ := ih (Nat.le_of_succ_le hle)
        rcases move_byte (fair.run i) hfi with ⟨hfi', hri'⟩ | ⟨he', _⟩
        · exact ⟨hfi', hri'.trans hri⟩
        · exact absurd he' (before i hi hle)
    obtain ⟨hfj, hrj⟩ := waits j hj le_rfl
    refine ⟨j, hj, waits, he, ?_⟩
    rcases move_byte (fair.run j) hfj with ⟨hf', _⟩ | ⟨_, gone⟩
    · exact absurd (he.symm.trans hf') Bool.false_ne_true
    · rwa [hrj] at gone

end Sys2Proof.Machine

/-! ## The wake byte over time: WAKEUP's waveform and CONNECT's time line (41_bitbang.md, 43_session.md section 2) -/

namespace Sys2Proof.Machine

/-! ### A wait and the segment after it -/

theorem core_run_one {s t : State} (h : step s = .next t) : Host.Core.run core 1 s = .next t :=
  (core_run_succ h 0).trans rfl

/-- A run goes on from where a first part of it ended. -/
theorem core_run_add {s t : State} {m : Nat} (n : Nat) (h : Host.Core.run core m s = .next t) :
    Host.Core.run core (m + n) s = Host.Core.run core n t := by
  induction m generalizing s with
  | zero => cases h; rw [Nat.zero_add]
  | succ m ih =>
    have hs : ∃ s', step s = .next s' := by
      cases hs : step s with
      | next s' => exact ⟨s', rfl⟩
      | fault | refused =>
        have hc : core.step s = _ := hs
        simp only [Host.Core.run, hc] at h
        cases h
    obtain ⟨s', hs⟩ := hs
    rw [core_run_succ hs] at h
    rw [Nat.add_right_comm, core_run_succ hs, ih h]

/-- With a tick pending and the engine's condition true, the next step is one segment of the command (R256). -/
theorem step_segment_of_pending_tick {s t : State} {i : Instr} {l : List Event} (hr : s.rst = false)
    (he : engineEnabled s = true) (hd : decode s.cmd = .command i) (hs : s.script = .tick :: l)
    (hx : exec i s = .next t) : step s = .next t := by
  rw [step_of_waiting_tick hr (by simp [nextEvent, hs]) he, engineStep_of_command hd, hx]

/-- A wait of `n` ms that has just been reached takes `n` pending ticks and the segment after it (R127). -/
theorem run_wait_segment {s t : State} {i : Instr} {n : Nat} {l : List Event} (hr : s.rst = false)
    (hb : s.busy = true) (hd : decode s.cmd = .command i) (ht : s.locals.t0 = s.now) (hn : n < 2 ^ 32)
    (hw : s.phase.waitMs s.cfg = some n) (hs : s.script = List.replicate n .tick ++ .tick :: l)
    (hx : exec i (s.ticked n (.tick :: l)) = .next t) : Host.Core.run core (n + 1) s = .next t := by
  have he := engineEnabled_ticked_of_waitMs hb ht hw hn (.tick :: l)
  rw [core_run_add 1 (run_wait hr hb ht hn hw le_rfl hs)]
  exact core_run_one (step_segment_of_pending_tick hr (he.trans (by simp)) hd rfl hx)

/-- The first segment of an accepted command, run before a pending tick. -/
theorem step_start_of_pending_tick {s t : State} {i : Instr} {l : List Event} (hr : s.rst = false)
    (hb : s.busy = true) (hp : s.phase = .start) (hd : decode s.cmd = .command i) (hs : s.script = .tick :: l)
    (hx : exec i s = .next t) : step s = .next t :=
  step_segment_of_pending_tick hr ((engineEnabled_iff s).2 ⟨hb, by rw [holdReady, hp]⟩) hd hs hx

/-! ### The ten cells (R152) -/

/-- `u` has just reached the first cell of a wake byte, with the command `i` running; `done` follows the stop bit. -/
structure AtFirstCell (i : Instr) (done : State → State) (u : State) : Prop where
  rst : u.rst = false
  busy : u.busy = true
  command : decode u.cmd = .command i
  cell : u.phase.waitMs u.cfg = some u.cfg.tBit
  idx : u.locals.idx = 0
  level : u.kline = wakeLevel u.cfg 0
  reached : u.locals.t0 = u.now
  short : u.cfg.tBit < 2 ^ 32
  segment : ∀ v : State, v.phase = u.phase → exec i v = .next (onWait v.cfg.tBit (wakeNext u.phase done) v)

/-- `u`, at the first cell, when it has just reached cell `k`: with the level of that cell, `k` bit times later. -/
def State.atCell (u : State) (k : Nat) (l : List Event) : State :=
  { u with
    now := u.now + BitVec.ofNat 32 (k * u.cfg.tBit)
    kline := wakeLevel u.cfg k
    locals := { u.locals with idx := k, t0 := u.now + BitVec.ofNat 32 (k * u.cfg.tBit) }
    script := l }

namespace AtFirstCell

variable {i : Instr} {done : State → State} {u : State}

theorem atCell_zero (h : AtFirstCell i done u) : u.atCell 0 u.script = u := by
  have hl : ({ u.locals with idx := 0, t0 := u.now } : Locals) = u.locals := by rw [← h.idx, ← h.reached]
  simp only [State.atCell, Nat.zero_mul, BitVec.add_zero, ← h.level, hl]

/-- A cell lasts `T_BIT_MS`; then `wakeNext` follows. -/
theorem run_cell (h : AtFirstCell i done u) (k : Nat) (l : List Event) :
    Host.Core.run core (u.cfg.tBit + 1) (u.atCell k (List.replicate u.cfg.tBit .tick ++ .tick :: l))
      = .next (wakeNext u.phase done ((u.atCell k []).ticked u.cfg.tBit (.tick :: l))) := by
  let v := (u.atCell k []).ticked u.cfg.tBit (.tick :: l)
  have hn := h.short
  have ht : elapsed v v.locals.t0 = u.cfg.tBit := elapsed_ticked (s := u.atCell k []) rfl hn _
  refine run_wait_segment (i := i) h.rst h.busy h.command rfl hn h.cell rfl ?_
  exact (h.segment v rfl).trans (congrArg Host.Outcome.next (onWait_of_le ht.ge _))

/-- After a cell before the tenth, the next cell is reached. -/
theorem run_next_cell (h : AtFirstCell i done u) {k : Nat} (hk : k < 9) (l : List Event) :
    Host.Core.run core (u.cfg.tBit + 1) (u.atCell k (List.replicate u.cfg.tBit .tick ++ .tick :: l))
      = .next (u.atCell (k + 1) (.tick :: l)) := by
  have time : u.now + BitVec.ofNat 32 ((k + 1) * u.cfg.tBit)
      = u.now + BitVec.ofNat 32 (k * u.cfg.tBit) + BitVec.ofNat 32 u.cfg.tBit := by
    rw [Nat.succ_mul, BitVec.ofNat_add, BitVec.add_assoc]
  rw [h.run_cell, wakeNext_of_lt (h := hk), State.atCell, State.atCell, time]
  rfl

/-- `k` cells later cell `k` is reached, and of the ticks pending `m + 1` are left. -/
theorem run_cells (h : AtFirstCell i done u) (rest : List Event) {k : Nat} (hk : k ≤ 9) (m : Nat)
    (hs : u.script = List.replicate (k * u.cfg.tBit + (m + 1)) .tick ++ rest) :
    Host.Core.run core (k * (u.cfg.tBit + 1)) u = .next (u.atCell k (List.replicate (m + 1) .tick ++ rest)) := by
  induction k generalizing m with
  | zero =>
    rw [Nat.zero_mul, Nat.zero_add] at *
    rw [← hs, h.atCell_zero]; rfl
  | succ k ih =>
    have hrun := ih (Nat.le_of_succ_le hk) (u.cfg.tBit + m) (by rw [hs]; congr 2; ring)
    rw [Nat.succ_mul, core_run_add _ hrun, Nat.add_assoc, List.replicate_add, List.append_assoc]
    exact h.run_next_cell hk (List.replicate m .tick ++ rest)

/-- `j` ticks into cell `k`, that cell is still on the line. -/
theorem run_into_cell (h : AtFirstCell i done u) (rest : List Event) {k j : Nat} (hk : k ≤ 9) (hj : j ≤ u.cfg.tBit)
    (hs : u.script = List.replicate (k * u.cfg.tBit + (j + 1)) .tick ++ rest) :
    Host.Core.run core (k * (u.cfg.tBit + 1) + j) u = .next ((u.atCell k []).ticked j (.tick :: rest)) := by
  rw [core_run_add j (h.run_cells rest hk j hs), List.replicate_add, List.append_assoc]
  exact run_wait (n := u.cfg.tBit) h.rst h.busy rfl h.short h.cell hj rfl

/-- After the ten cells `done` follows, with the tenth cell's level still on the line. -/
theorem run_byte (h : AtFirstCell i done u) (rest : List Event)
    (hs : u.script = List.replicate (10 * u.cfg.tBit + 1) .tick ++ rest) :
    Host.Core.run core (10 * (u.cfg.tBit + 1)) u
      = .next (done ((u.atCell 9 []).ticked u.cfg.tBit (.tick :: rest))) := by
  have hrun := h.run_cells rest (k := 9) le_rfl u.cfg.tBit (by rw [hs]; congr 2; ring)
  rw [show 10 * (u.cfg.tBit + 1) = 9 * (u.cfg.tBit + 1) + (u.cfg.tBit + 1) by ring, core_run_add _ hrun,
    List.replicate_add, List.append_assoc]
  refine (h.run_cell 9 rest).trans (congrArg Host.Outcome.next ?_)
  exact wakeNext_of_le (h := le_rfl) ..

end AtFirstCell

/-! ### WAKEUP (R150) -/

/-- The first segment of WAKEUP reaches the first cell. -/
theorem atFirstCell_of_wakeup {s : State} (hr : s.rst = false) (hb : s.busy = true)
    (hd : decode s.cmd = .command .wakeup) (hn : s.cfg.tBit < 2 ^ 32) :
    AtFirstCell .wakeup finish (wakeBegin .wakeCell (enterGpio s)) where
  rst := hr
  busy := hb
  command := hd
  cell := rfl
  idx := rfl
  level := rfl
  reached := rfl
  short := hn
  segment := fun _ hp => execWakeup_of_wakeCell hp

/-- Settles O25: after WAKEUP's first segment, the cells by `run_cells` and the ticks within a cell by `run_wait`;
after the tenth by `run_byte`. -/
theorem wakeupWaveformOverTime : Obligations.WakeupWaveformOverTime := by
  intro s rest k j hr hb hp hd hs _ hn
  have first := atFirstCell_of_wakeup hr hb hd hn
  have start : exec .wakeup s = .next (wakeBegin .wakeCell (enterGpio s)) :=
    (execWakeup_of_start hp).trans (by rw [wakeupStart_of_allowed hs])
  refine ⟨fun hk hj hscript => ?_, fun hscript => ?_⟩
  · have hstep := step_start_of_pending_tick hr hb hp hd (hscript.trans rfl) start
    have hrun := (core_run_succ hstep _).trans (first.run_into_cell rest hk hj.le hscript)
    have hsteps : k * s.cfg.tBit + j + (k + 1) = k * (s.cfg.tBit + 1) + j + 1 := by ring
    refine ⟨_, (congrArg (Host.Core.run core · s) hsteps).trans hrun, ?_, rfl, rfl, hb⟩
    rw [BitVec.ofNat_add, ← BitVec.add_assoc]; rfl
  · have hstep := step_start_of_pending_tick hr hb hp hd (hscript.trans rfl) start
    have hrun := (core_run_succ hstep _).trans (first.run_byte rest hscript)
    have hsteps : 10 * s.cfg.tBit + 11 = 10 * (s.cfg.tBit + 1) + 1 := by ring
    refine ⟨_, (congrArg (Host.Core.run core · s) hsteps).trans hrun, ?_, wakeLevel_nine s.cfg, rfl, rfl, rfl⟩
    rw [show 10 * s.cfg.tBit = 9 * s.cfg.tBit + s.cfg.tBit by ring, BitVec.ofNat_add, ← BitVec.add_assoc]; rfl

/-! ### CONNECT's time line (R186) -/

/-- The segment after CONNECT's idle wait reaches the first cell. -/
theorem atFirstCell_of_connect {s : State} (hr : s.rst = false) (hb : s.busy = true)
    (hd : decode s.cmd = .command .connect) (hn : s.cfg.tBit < 2 ^ 32) :
    AtFirstCell .connect connectToUart (wakeBegin .connectCell s) where
  rst := hr
  busy := hb
  command := hd
  cell := rfl
  idx := rfl
  level := rfl
  reached := rfl
  short := hn
  segment := fun _ hp => execConnect_of_connectCell hp

theorem waits_short_of_legal {c : Config} (h : c.legal = true) : c.tIdle < 2 ^ 32 ∧ c.tBit < 2 ^ 32 := by
  simp only [Config.legal, Bool.and_eq_true, decide_eq_true_eq] at h
  omega

/-- Settles O39: the first segment, the idle wait by `run_wait_segment`, the ten cells by `run_byte`. -/
theorem connectReachesUartOnTime : Obligations.ConnectReachesUartOnTime := by
  intro s rest hr hb hp hd hs hl hscript
  obtain ⟨hni, hnb⟩ := waits_short_of_legal hl
  let l := List.replicate (10 * s.cfg.tBit) .tick ++ rest
  let w := hold .connectIdle (drive true (enterGpio { s with session := .initializing }))
  let v := w.ticked s.cfg.tIdle (.tick :: l)
  have start : exec .connect s = .next w := (execConnect_of_start hp).trans (by rw [connectStart, if_pos hs])
  have idle : exec .connect v = .next (wakeBegin .connectCell v) := by
    have ht : elapsed v v.locals.t0 = s.cfg.tIdle := elapsed_ticked (s := w) rfl hni _
    exact (execConnect_of_connectIdle (s := v) rfl).trans (congrArg Host.Outcome.next (onWait_of_le ht.ge _))
  have hstep : step s = .next w := step_start_of_pending_tick hr hb hp hd (hscript.trans rfl) start
  have hwait : Host.Core.run core (s.cfg.tIdle + 1) w = .next (wakeBegin .connectCell v) := by
    refine run_wait_segment hr hb hd rfl hni rfl (hscript.trans ?_) idle
    rw [Nat.add_assoc, List.replicate_add, List.append_assoc]; rfl
  have hbyte := (atFirstCell_of_connect (s := v) hr hb hd hnb).run_byte rest rfl
  have hrun := (core_run_succ hstep _).trans ((core_run_add _ hwait).trans hbyte)
  have hsteps : s.cfg.tIdle + 10 * s.cfg.tBit + 12 = s.cfg.tIdle + 1 + 10 * (s.cfg.tBit + 1) + 1 := by ring
  have time : s.now + BitVec.ofNat 32 (s.cfg.tIdle + 10 * s.cfg.tBit)
      = s.now + BitVec.ofNat 32 s.cfg.tIdle + BitVec.ofNat 32 (9 * s.cfg.tBit) + BitVec.ofNat 32 s.cfg.tBit := by
    rw [BitVec.add_assoc, BitVec.add_assoc, ← BitVec.ofNat_add, ← BitVec.ofNat_add, ← Nat.succ_mul]
  have busy_wire : let r := connectToUart (((wakeBegin .connectCell v).atCell 9 []).ticked s.cfg.tBit (.tick :: rest))
      r.busy = true ∧ r.wireTx = s.wireTx := by
    simp [connectToUart, State.ticked, State.atCell, v, w, hb]
  exact ⟨_, (congrArg (Host.Core.run core · s) hsteps).trans hrun, time.symm, rfl, rfl, rfl, rfl, rfl, busy_wire⟩

end Sys2Proof.Machine
